-- ==== Sys2Proof/Word.lean ====
section
/-! DEFINITION. The words of the JM-432: the widths of Table 6-1 (00_scope.md) that the part moves, stamps or adds as words. -/

namespace Sys2Proof

/-- One byte of a frame, eight bits of SDIn or SDOn (R175). -/
abbrev Byte := BitVec 8

/-- A wide value: signed 72-bit two's complement, the width of a live value and of a record value (Table 6-1). -/
abbrev Wide := BitVec 72

/-- A 64-bit word: a load value or a monitor bound, signed (Table 6-1). -/
abbrev Word64 := BitVec 64

/-- A 48-bit window sequence number, also the width of a cursor and of a target window (Table 6-1). -/
abbrev Sequence := BitVec 48

/-- A 32-bit word: an operand, a count, a boundary count, the tick counter, a hysteresis (Table 6-1). -/
abbrev Word32 := BitVec 32

/-- A 16-bit session number (Table 6-1). -/
abbrev SessionNumber := BitVec 16

end Sys2Proof
end

