-- ==== Sys2Proof/Config.lean ====
section
/-! DEFINITION. The fixed quantities of the JM-432. The spec leaves no value open that a run of the part could need,
so nothing here is a free value: every constant is one the rules state. -/

namespace Sys2Proof.Config

/-- The request queue of a port holds at most 4 frames (R178, R183). -/
@[simp] def requestQueueLimit : Nat := 4

/-- Reservations and queued responses of a port together number at most 8 (R178, R183). -/
@[simp] def responseLimit : Nat := 8

/-- A job queue holds at most 4 jobs (R51). -/
@[simp] def jobQueueLimit : Nat := 4

/-- An event queue holds at most 15 records that are not the EVENTS_LOST marker (R145). -/
@[simp] def eventLimit : Nat := 15

/-- The greatest lost count an EVENTS_LOST marker holds (R147). -/
@[simp] def lostLimit : Nat := 65535

/-- The pool holds 256 record slots (R98). -/
@[simp] def poolSlots : Nat := 256

/-- The greatest history depth of an accumulator (R5, R108). -/
@[simp] def maxDepth : Nat := 32

/-- The greatest payload length L of a request frame (R175). -/
@[simp] def maxPayload : Nat := 136

/-- The port keeps at most the first 140 bytes of a transaction (R175). -/
@[simp] def keptBytes : Nat := 140

/-- The period of a group after device reset, in ticks (R78). -/
@[simp] def resetPeriod : Nat := 256

/-- The shortest lease length, in ticks (R157). -/
@[simp] def minLease : Nat := 16

/-- The longest lease length, in ticks (R157). -/
@[simp] def maxLease : Nat := 8192

/-- The last open sequence, 2^48 − 1, at which no close is performed (R21). -/
@[simp] def lastSequence : Sequence := 0xFFFFFFFFFFFF#48

/-- The greatest count, 2^32 − 1, at which a count saturates (R15). -/
@[simp] def maxCount : Nat := 4294967295

end Sys2Proof.Config
end

