-- ==== Sys2Proof/Syntax.lean ====
section
/-! DEFINITION. The commands of the JM-432: one constructor per row of spec/opcode_table.json, in the table's order.
A command is one step of the part (95_what_each_step_holds.md), whole and indivisible. Its operand names the port, the
group or the accumulator at which the step is taken; what a request carries besides is in the bytes of the frame at the
head of that port's request queue, where the rules put it (R178, R181). -/

namespace Sys2Proof

/-- A port, P0 to P3 (00_scope.md, section 6). -/
abbrev Port := Fin 4

/-- An accumulator, A0 to A31 (R1). -/
abbrev AccIx := Fin 32

/-- A window group, G0 to G3 (R78). -/
abbrev GroupIx := Fin 4

/-- A monitor, M0 to M15 (R128). -/
abbrev MonIx := Fin 16

/-- The four ports in ascending order. -/
def allPorts : List Port := [0, 1, 2, 3]

/-- The four groups in ascending order. -/
def allGroups : List GroupIx := [0, 1, 2, 3]

/-- The sixteen monitors in ascending order. -/
def allMonitors : List MonIx := [0, 1, 2, 3, 4, 5, 6, 7, 8, 9, 10, 11, 12, 13, 14, 15]

/-- The thirty-two accumulators in ascending order. -/
def allAccs : List AccIx :=
  [0, 1, 2, 3, 4, 5, 6, 7, 8, 9, 10, 11, 12, 13, 14, 15,
   16, 17, 18, 19, 20, 21, 22, 23, 24, 25, 26, 27, 28, 29, 30, 31]

/-- One step of the part, a row of spec/opcode_table.json. -/
inductive Instr where
  /-- DEVICE_RESET (R188). RESETn low or power-up returns every block to its reset values, and the ports begin no transaction while RESETn is low. -/
  | deviceReset
  /-- TICK (R76). At the end of every 128 REFCLK periods a tick increments the tick counter, counts down running groups and decrements each open lease. -/
  | tick
  /-- LEASE_EXPIRY (R160). A tick that would bring lease remaining to 0 ends the session with cause EXPIRY. -/
  | leaseExpiry (p : Port)
  /-- BOUNDARY (R86). A running group's countdown reaches 0, so its boundary count advances, its countdown reloads with the period and the boundary is handed to the accumulator table. -/
  | boundary (g : GroupIx)
  /-- BOUNDARY_NOTICE (R88). The accumulator table takes a boundary and forms a close claim for each non-FREE accumulator bound to the group. -/
  | boundaryNotice (g : GroupIx)
  /-- CLOSE_CLAIM (R89). A held close claim is taken at the table and is ignored when stale, skipped at the sequence limit, or otherwise closes the window with cause SCHEDULED. -/
  | closeClaim (a : AccIx)
  /-- TRANSACTION_START (R173). SELn falls, the port forms the status header and takes a delivery copy of the head response. -/
  | transactionStart (p : Port)
  /-- TRANSACTION_END (R177). SELn rises and the port judges the received bytes as one frame. -/
  | transactionEnd (p : Port)
  /-- NULL (R177). A NULL frame is accepted and discarded at once, refreshing the lease without taking a queue place or a reservation. -/
  | null (p : Port)
  /-- RESYNC (R180). A RESYNC frame ends an open session with cause RESYNC, or in CLOSED empties the port's request and response queues and drops its reservations. -/
  | resync (p : Port)
  /-- BAD_KIND (R182). The decoder answers BAD_KIND to a request of undefined kind, or BAD_LENGTH to kind 0x00 or 0xFF with a non-zero length. -/
  | badKind (p : Port)
  /-- OPEN (R158). OPEN in CLOSED opens a session with the next session number and the carried lease length, and is answered ALREADY_OPEN in OPEN. -/
  | openSession (p : Port)
  /-- CLOSE_SESSION (R162). The request CLOSE ends the session with cause CLOSE, and its response is the one response that survives the port's flush. -/
  | closeSession (p : Port)
  /-- PORT_STATUS (R170). PORT_STATUS reports the session record and the tick counter. -/
  | portStatus (p : Port)
  /-- ENGINE_SESSION_END (R72). The engine takes the session end by emptying the port's job queue and marking the port's running job DISCARD. -/
  | engineSessionEnd (p : Port)
  /-- EVENT_QUEUE_SESSION_END (R153). The port's event queue takes the session end and discards every record, the marker included. -/
  | eventQueueSessionEnd (p : Port)
  /-- PORT_SESSION_END (R167). The port takes the session end by emptying its queues, dropping its reservations, queuing any CLOSE response and setting EXPIRED on expiry. -/
  | portSessionEnd (p : Port)
  /-- ACC_CREATE (R6). ACC_CREATE makes a FREE accumulator OWNED by the requester with the requested policies and a ring of the requested depth. -/
  | accCreate (p : Port)
  /-- ACC_CONFIGURE (R8). ACC_CONFIGURE replaces an accumulator's five policy fields. -/
  | accConfigure (p : Port)
  /-- ACC_RELEASE (R9). ACC_RELEASE frees an owned accumulator, withdrawing its offer, posting ACC_GONE, detaching monitors and returning its depth to the pool. -/
  | accRelease (p : Port)
  /-- ACC_INFO (R11). ACC_INFO reports an accumulator's state, policies, window and access sets. -/
  | accInfo (p : Port)
  /-- ACC_GRANT (R29). ACC_GRANT adds a port to, or removes it from, the contributor set and posts RIGHTS_CHANGED to the target. -/
  | accGrant (p : Port)
  /-- ACC_OFFER (R34). ACC_OFFER sets, replaces or clears the offer of ownership to another port. -/
  | accOffer (p : Port)
  /-- ACC_ACCEPT (R36). ACC_ACCEPT transfers ownership to the port named by the offer. -/
  | accAccept (p : Port)
  /-- ACC_CLAIM (R41). ACC_CLAIM makes the requester owner of an ORPHANED accumulator. -/
  | accClaim (p : Port)
  /-- SUBSCRIBE (R44). SUBSCRIBE adds or replaces the requester's reader entry with its cursor, notify-on-close flag and default read format. -/
  | subscribe (p : Port)
  /-- UNSUBSCRIBE (R45). UNSUBSCRIBE removes the requester's reader entry. -/
  | unsubscribe (p : Port)
  /-- ACCUMULATE (R49). The decoder checks an ACCUMULATE request and appends its job to the port's job queue, waiting while the queue is full. -/
  | accumulate (p : Port)
  /-- LOAD (R57). The decoder checks a LOAD request and appends a LOAD job to the port's job queue. -/
  | load (p : Port)
  /-- CLOSE_WINDOW (R58). The decoder checks a CLOSE_WINDOW request and appends a CLOSE job to the port's job queue. -/
  | closeWindow (p : Port)
  /-- FENCE (R59). The decoder appends a FENCE job, which completes after every earlier job of the port. -/
  | fence (p : Port)
  /-- GRANT (R53). When the engine is IDLE and a job is queued, the arbiter grants the head job of the next port in rotation and the engine becomes BUSY. -/
  | grant
  /-- JOB_COMPLETION (R60). A running job completes and the accumulator table judges it by the ordered tests, applying it or answering it. -/
  | jobCompletion
  /-- JOB_CANCEL (R70). JOB_CANCEL removes the oldest queued job with the given tag, or marks the matching running job CANCEL. -/
  | jobCancel (p : Port)
  /-- READ_LIVE (R123). READ_LIVE returns the formatted live value with the count, saturated flag and open sequence. -/
  | readLive (p : Port)
  /-- READ_HISTORY (R104). READ_HISTORY applies the overrun test, returns records from the reader's cursor and advances the cursor. -/
  | readHistory (p : Port)
  /-- READ_RECORD (R107). READ_RECORD returns one held closed-window record by its sequence. -/
  | readRecord (p : Port)
  /-- HISTORY_RESIZE (R108). HISTORY_RESIZE grows or shrinks an accumulator's ring depth against the pool. -/
  | historyResize (p : Port)
  /-- GROUP_CLAIM (R80). GROUP_CLAIM makes the requester owner of an ownerless group. -/
  | groupClaim (p : Port)
  /-- GROUP_SET (R81). GROUP_SET replaces the period of a stopped group. -/
  | groupSet (p : Port)
  /-- GROUP_START (R82). GROUP_START sets the countdown to the phase or the period and makes the group RUNNING. -/
  | groupStart (p : Port)
  /-- GROUP_STOP (R83). GROUP_STOP makes the group STOPPED and drops its countdown. -/
  | groupStop (p : Port)
  /-- GROUP_RELEASE (R84). GROUP_RELEASE makes the group ownerless and keeps its state. -/
  | groupRelease (p : Port)
  /-- GROUP_INFO (R85). GROUP_INFO reports the group record and the tick counter. -/
  | groupInfo (p : Port)
  /-- MON_CREATE (R131). MON_CREATE takes the lowest FREE monitor record and arms it on the accumulator with region UNKNOWN. -/
  | monCreate (p : Port)
  /-- MON_ATTACH (R138). MON_ATTACH re-arms a DETACHED monitor on an accumulator with region UNKNOWN. -/
  | monAttach (p : Port)
  /-- MON_FREE (R140). MON_FREE makes the requester's monitor FREE. -/
  | monFree (p : Port)
  /-- MON_INFO (R142). MON_INFO reports a monitor record. -/
  | monInfo (p : Port)
  /-- EVENT_FETCH (R150). EVENT_FETCH removes up to the maximum oldest records from the port's event queue and returns them. -/
  | eventFetch (p : Port)
  /-- BYTE_SHIFTED (R184). A complete byte clocked on SCKn within a transaction shifts the next status-header or response byte out and takes one SDIn byte in; completing the header clears REFUSED, and shifting the last CRC byte removes the delivered response from the head of the response queue. -/
  | byteShifted (p : Port) (sdi : Byte)
  /-- RESETN_RETURNS_HIGH (R188). When RESETn returns high, the ports may begin transactions again once SELn has risen and fallen, and the REFCLK count towards the first tick begins. -/
  | resetnReturnsHigh
  deriving DecidableEq, Repr

end Sys2Proof
end

