-- ==== Sys2Proof/WellFormed.lean ====
section
/-! DEFINITION. The well-formedness of a command given from outside as numbers. The operands of `Instr` carry their
ranges in their types; a command spelled by a row number of spec/opcode_table.json and a list of operand numbers is
checked here, once, and the check gives the command or refuses it. -/

namespace Sys2Proof

/-- A command as numbers: the row's place in spec/opcode_table.json, counted from 0, and its operands. -/
structure RawCommand where
  row      : Nat
  operands : List Nat
  deriving DecidableEq, Repr

/-- A number as an index below `n`, refused when it is not below `n`. -/
def indexBelow (n k : Nat) : Option (Fin n) := if h : k < n then some ⟨k, h⟩ else none

/-- A number as a byte, refused when it is above 255. -/
def byteOf (k : Nat) : Option Byte := if h : k < 2 ^ 8 then some (BitVec.ofNatLT k h) else none

/-- The command that a row number and operand numbers spell; `none` for a row the table does not have, a wrong number of
operands, or an operand outside its range. -/
def RawCommand.command? : RawCommand → Option Instr
  | ⟨0, []⟩ => some .deviceReset
  | ⟨1, []⟩ => some .tick
  | ⟨2, [p]⟩ => (indexBelow 4 p).map .leaseExpiry
  | ⟨3, [g]⟩ => (indexBelow 4 g).map .boundary
  | ⟨4, [g]⟩ => (indexBelow 4 g).map .boundaryNotice
  | ⟨5, [a]⟩ => (indexBelow 32 a).map .closeClaim
  | ⟨6, [p]⟩ => (indexBelow 4 p).map .transactionStart
  | ⟨7, [p]⟩ => (indexBelow 4 p).map .transactionEnd
  | ⟨8, [p]⟩ => (indexBelow 4 p).map .null
  | ⟨9, [p]⟩ => (indexBelow 4 p).map .resync
  | ⟨10, [p]⟩ => (indexBelow 4 p).map .badKind
  | ⟨11, [p]⟩ => (indexBelow 4 p).map .openSession
  | ⟨12, [p]⟩ => (indexBelow 4 p).map .closeSession
  | ⟨13, [p]⟩ => (indexBelow 4 p).map .portStatus
  | ⟨14, [p]⟩ => (indexBelow 4 p).map .engineSessionEnd
  | ⟨15, [p]⟩ => (indexBelow 4 p).map .eventQueueSessionEnd
  | ⟨16, [p]⟩ => (indexBelow 4 p).map .portSessionEnd
  | ⟨17, [p]⟩ => (indexBelow 4 p).map .accCreate
  | ⟨18, [p]⟩ => (indexBelow 4 p).map .accConfigure
  | ⟨19, [p]⟩ => (indexBelow 4 p).map .accRelease
  | ⟨20, [p]⟩ => (indexBelow 4 p).map .accInfo
  | ⟨21, [p]⟩ => (indexBelow 4 p).map .accGrant
  | ⟨22, [p]⟩ => (indexBelow 4 p).map .accOffer
  | ⟨23, [p]⟩ => (indexBelow 4 p).map .accAccept
  | ⟨24, [p]⟩ => (indexBelow 4 p).map .accClaim
  | ⟨25, [p]⟩ => (indexBelow 4 p).map .subscribe
  | ⟨26, [p]⟩ => (indexBelow 4 p).map .unsubscribe
  | ⟨27, [p]⟩ => (indexBelow 4 p).map .accumulate
  | ⟨28, [p]⟩ => (indexBelow 4 p).map .load
  | ⟨29, [p]⟩ => (indexBelow 4 p).map .closeWindow
  | ⟨30, [p]⟩ => (indexBelow 4 p).map .fence
  | ⟨31, []⟩ => some .grant
  | ⟨32, []⟩ => some .jobCompletion
  | ⟨33, [p]⟩ => (indexBelow 4 p).map .jobCancel
  | ⟨34, [p]⟩ => (indexBelow 4 p).map .readLive
  | ⟨35, [p]⟩ => (indexBelow 4 p).map .readHistory
  | ⟨36, [p]⟩ => (indexBelow 4 p).map .readRecord
  | ⟨37, [p]⟩ => (indexBelow 4 p).map .historyResize
  | ⟨38, [p]⟩ => (indexBelow 4 p).map .groupClaim
  | ⟨39, [p]⟩ => (indexBelow 4 p).map .groupSet
  | ⟨40, [p]⟩ => (indexBelow 4 p).map .groupStart
  | ⟨41, [p]⟩ => (indexBelow 4 p).map .groupStop
  | ⟨42, [p]⟩ => (indexBelow 4 p).map .groupRelease
  | ⟨43, [p]⟩ => (indexBelow 4 p).map .groupInfo
  | ⟨44, [p]⟩ => (indexBelow 4 p).map .monCreate
  | ⟨45, [p]⟩ => (indexBelow 4 p).map .monAttach
  | ⟨46, [p]⟩ => (indexBelow 4 p).map .monFree
  | ⟨47, [p]⟩ => (indexBelow 4 p).map .monInfo
  | ⟨48, [p]⟩ => (indexBelow 4 p).map .eventFetch
  | ⟨49, [p, b]⟩ => (indexBelow 4 p).bind fun p => (byteOf b).map (.byteShifted p)
  | ⟨50, []⟩ => some .resetnReturnsHigh
  | _ => none

/-- A raw command is well formed when it spells a command. -/
abbrev RawCommand.WellFormed (r : RawCommand) : Prop := r.command?.isSome = true

/-- The numbers that spell a command. -/
def Instr.raw : Instr → RawCommand
  | .deviceReset => ⟨0, []⟩
  | .tick => ⟨1, []⟩
  | .leaseExpiry p => ⟨2, [p.val]⟩
  | .boundary g => ⟨3, [g.val]⟩
  | .boundaryNotice g => ⟨4, [g.val]⟩
  | .closeClaim a => ⟨5, [a.val]⟩
  | .transactionStart p => ⟨6, [p.val]⟩
  | .transactionEnd p => ⟨7, [p.val]⟩
  | .null p => ⟨8, [p.val]⟩
  | .resync p => ⟨9, [p.val]⟩
  | .badKind p => ⟨10, [p.val]⟩
  | .openSession p => ⟨11, [p.val]⟩
  | .closeSession p => ⟨12, [p.val]⟩
  | .portStatus p => ⟨13, [p.val]⟩
  | .engineSessionEnd p => ⟨14, [p.val]⟩
  | .eventQueueSessionEnd p => ⟨15, [p.val]⟩
  | .portSessionEnd p => ⟨16, [p.val]⟩
  | .accCreate p => ⟨17, [p.val]⟩
  | .accConfigure p => ⟨18, [p.val]⟩
  | .accRelease p => ⟨19, [p.val]⟩
  | .accInfo p => ⟨20, [p.val]⟩
  | .accGrant p => ⟨21, [p.val]⟩
  | .accOffer p => ⟨22, [p.val]⟩
  | .accAccept p => ⟨23, [p.val]⟩
  | .accClaim p => ⟨24, [p.val]⟩
  | .subscribe p => ⟨25, [p.val]⟩
  | .unsubscribe p => ⟨26, [p.val]⟩
  | .accumulate p => ⟨27, [p.val]⟩
  | .load p => ⟨28, [p.val]⟩
  | .closeWindow p => ⟨29, [p.val]⟩
  | .fence p => ⟨30, [p.val]⟩
  | .grant => ⟨31, []⟩
  | .jobCompletion => ⟨32, []⟩
  | .jobCancel p => ⟨33, [p.val]⟩
  | .readLive p => ⟨34, [p.val]⟩
  | .readHistory p => ⟨35, [p.val]⟩
  | .readRecord p => ⟨36, [p.val]⟩
  | .historyResize p => ⟨37, [p.val]⟩
  | .groupClaim p => ⟨38, [p.val]⟩
  | .groupSet p => ⟨39, [p.val]⟩
  | .groupStart p => ⟨40, [p.val]⟩
  | .groupStop p => ⟨41, [p.val]⟩
  | .groupRelease p => ⟨42, [p.val]⟩
  | .groupInfo p => ⟨43, [p.val]⟩
  | .monCreate p => ⟨44, [p.val]⟩
  | .monAttach p => ⟨45, [p.val]⟩
  | .monFree p => ⟨46, [p.val]⟩
  | .monInfo p => ⟨47, [p.val]⟩
  | .eventFetch p => ⟨48, [p.val]⟩
  | .byteShifted p b => ⟨49, [p.val, b.toNat]⟩
  | .resetnReturnsHigh => ⟨50, []⟩

end Sys2Proof
end

