-- ==== Sys2Proof/Decode.lean ====
section
/-! DEFINITION. Decoding of the opcode table's words. The JM-432 is a block: its commands are steps, and no row of
spec/opcode_table.json gives bits (every row's "fields" is empty and none has "fixed"), so no word spells a command.
How the part reads a request frame's bytes is in Machine/Operands.lean. -/

namespace Sys2Proof

/-- The command that a word of the table spells: none, since no row of the table gives bits. -/
def decodeTableWord (_nbits _w : Nat) : Option Instr := none

end Sys2Proof
end

