-- ==== Sys2Proof/Machine/State.lean ====
section
/-! DEFINITION. The state of the JM-432: every item the spec gives a block, as plain data, and its value after device
reset. Items the spec says are absent in some state are options, and a state that is told by such an item is not stored
twice (DESIGN CHOICE, log entry 14): an accumulator is ORPHANED when it has no owner, a group RUNNING when it has a countdown, a session OPEN when it
has a lease, a record FREE when its slot is `none`. -/

namespace Sys2Proof.Machine

/-! ### Accumulators and their history (Tables 1-1, 5-1, 6-1) -/

/-- How 32-bit operands are read (R12). -/
inductive Mode where
  | signed
  | unsigned
  deriving DecidableEq, Repr

/-- The group whose boundaries close the accumulator, or MANUAL (Table 1-1). -/
inductive Binding where
  | group (g : GroupIx)
  | manual
  deriving DecidableEq, Repr

/-- The live value after a close: 0 under CLEAR, unchanged under CARRY (R19). -/
inductive CloseAction where
  | clear
  | carry
  deriving DecidableEq, Repr

/-- PUBLIC or PRIVATE (R28). -/
inductive ReaderPolicy where
  | publicAccess
  | privateAccess
  deriving DecidableEq, Repr

/-- KEEP or DROP at the end of the owner's session (R24, R25). -/
inductive OrphanPolicy where
  | keep
  | drop
  deriving DecidableEq, Repr

/-- The five policy fields that ACC_CREATE and ACC_CONFIGURE carry (R5, R7). -/
structure Policies where
  mode         : Mode
  closeAction  : CloseAction
  readerPolicy : ReaderPolicy
  orphanPolicy : OrphanPolicy
  binding      : Binding
  deriving DecidableEq, Repr

/-- How the bits shifted out of a presented value are treated (R117). -/
inductive Rounding where
  | truncate
  | nearest
  deriving DecidableEq, Repr

/-- The signed width of a presented value; RAW is the full wide value (Table 6-1). -/
inductive Width where
  | w16
  | w32
  | w64
  | raw
  deriving DecidableEq, Repr

/-- What a result outside the width's range becomes (R118). -/
inductive Limit where
  | wrap
  | clamp
  deriving DecidableEq, Repr

/-- A read format (Table 6-1). -/
structure ReadFormat where
  shift    : Fin 64
  rounding : Rounding
  width    : Width
  limit    : Limit
  deriving DecidableEq, Repr

/-- A reader's subscription entry; the port it belongs to is its place in the reader list (R27, R44). -/
structure ReaderEntry where
  cursor : Sequence
  notify : Bool
  format : ReadFormat
  deriving DecidableEq, Repr

/-- A pending transfer of ownership (R33). -/
structure Offer where
  port : Port
  keep : Bool
  deriving DecidableEq, Repr

/-- What caused a close; the group and the boundary count are present for SCHEDULED only (R18, Table 5-1). -/
inductive Cause where
  | scheduled (g : GroupIx) (boundaryCount : Word32)
  | manual
  deriving DecidableEq, Repr

/-- A closed-window record (R18, Table 5-1). -/
structure ClosedRecord where
  sequence  : Sequence
  value     : Wide
  count     : Word32
  saturated : Bool
  cause     : Cause
  tick      : Word32
  deriving DecidableEq, Repr

/-- An accumulator record that is not FREE, with its ring (Table 1-1, R100): OWNED when it has an owner, ORPHANED when it
has none. -/
structure Accumulator where
  owner        : Option Port
  policies     : Policies
  live         : Wide
  count        : Word32
  saturated    : Bool
  openSequence : Sequence
  contributors : Vector Bool 4
  readers      : Vector (Option ReaderEntry) 4
  offer        : Option Offer
  depth        : Nat
  ring         : List ClosedRecord
  deriving DecidableEq, Repr

/-! ### The window clock (Table 4-1) -/

/-- What a boundary hands over and a close claim carries: the group, the boundary count and the tick stamp (R86, R88). -/
structure Boundary where
  group : GroupIx
  count : Word32
  tick  : Word32
  deriving DecidableEq, Repr

/-- A group record; RUNNING when it has a countdown. `boundaryDue` is the model's own: a tick has reached the group that
brings its countdown to 0, and the boundary's step is still to be taken (log entry 4). -/
structure Group where
  period        : Nat
  countdown     : Option Nat
  boundaryCount : Word32
  owner         : Option Port
  boundaryDue   : Bool
  deriving DecidableEq, Repr

/-! ### Threshold monitors (Table 7-1) -/

/-- Which value a monitor judges. -/
inductive Source where
  | live
  | closed
  deriving DecidableEq, Repr

/-- A monitor's judgement of the value (R133). -/
inductive Region where
  | unknown
  | inside
  | above
  | below
  deriving DecidableEq, Repr

/-- What MON_CREATE configures and MON_ATTACH keeps (R130, R138). -/
structure MonitorConfig where
  source        : Source
  low           : Word64
  high          : Word64
  hysteresis    : Word32
  toInside      : Bool
  toAbove       : Bool
  toBelow       : Bool
  notifyReaders : Bool
  deriving DecidableEq, Repr

/-- A monitor record that is not FREE: ARMED or DETACHED (Tables 7-1 and 7-2). -/
structure Monitor where
  armed  : Bool
  owner  : Port
  acc    : AccIx
  config : MonitorConfig
  region : Region
  deriving DecidableEq, Repr

/-! ### Events (Table 8-1) -/

/-- Why a monitor was detached (R136, R137). -/
inductive DetachReason where
  | released
  | accessLost
  deriving DecidableEq, Repr

/-- Why an accumulator is gone (R9, R25). -/
inductive GoneReason where
  | released
  | ownerEnded
  deriving DecidableEq, Repr

/-- An event of one of the eleven kinds with the fields of its kind (R143, Table 8-1). -/
inductive Event where
  | windowClosed (a : AccIx) (sequence : Sequence) (byManual : Bool)
  | threshold (m : MonIx) (a : AccIx) (region : Region) (value : Word64)
  | monitorDetached (m : MonIx) (a : AccIx) (reason : DetachReason)
  | accGone (a : AccIx) (reason : GoneReason)
  | accOrphaned (a : AccIx)
  | accClaimed (a : AccIx) (newOwner : Port)
  | offer (a : AccIx) (offerer : Port) (keep : Bool)
  | offerWithdrawn (a : AccIx)
  | offerEnded (a : AccIx) (named : Port)
  | rightsChanged (a : AccIx) (granted : Bool)
  | eventsLost (lost : Nat)
  deriving DecidableEq, Repr

/-- An event record: an event and its tick stamp (R143). -/
structure EventRecord where
  event : Event
  tick  : Word32
  deriving DecidableEq, Repr

/-! ### The engine (Table 3-1) -/

/-- The mark set by JOB_CANCEL or by the end of the port's session. -/
inductive CancelMark where
  | none
  | cancel
  | discard
  deriving DecidableEq, Repr

/-- The kind of a job with the kind's own fields. -/
inductive Work where
  | accumulate (a : AccIx) (pairs : List (Word32 × Word32)) (negate : Bool) (target : Option Sequence)
  | load (a : AccIx) (value : Word64) (target : Option Sequence)
  | close (a : AccIx)
  | fence
  deriving DecidableEq, Repr

/-- A job record; QUEUED in a job queue, RUNNING as the engine's running job. -/
structure Job where
  tag     : Byte
  port    : Port
  session : SessionNumber
  work    : Work
  mark    : CancelMark
  deriving DecidableEq, Repr

/-! ### Ports (Table 10-1) and sessions (Table 9-1) -/

/-- Status codes (Table 11-17). -/
inductive Status where
  | ok | cancelled | badKind | badLength | badField | badState | noSession | alreadyOpen
  | notOwner | notAuthorised | inUse | noAccumulator | noHistorySpace | notEmpty | gone
  | windowPassed | windowNotOpen | notFound | busy | noOffer | alreadyOwned | notSubscribed
  | notHeld | noMonitor | sequenceLimit
  deriving DecidableEq, Repr

/-- An accepted request frame awaiting the decoder. -/
structure Frame where
  kind    : Byte
  tag     : Byte
  payload : List Byte
  deriving DecidableEq, Repr

/-- A formed response awaiting delivery. -/
structure Response where
  tag     : Byte
  status  : Status
  payload : List Byte
  deriving DecidableEq, Repr

/-- The delivery copy and how many bytes of its response, the length byte first, have been shifted. `queued` is the
model's own: the response still stands at the head of the queue it was copied from (R184, log entry 9). -/
structure Delivery where
  response : Response
  shifted  : Nat
  queued   : Bool
  deriving DecidableEq, Repr

/-- SELn high or low, as the port last took it. -/
inductive Framing where
  | idle
  | selected
  deriving DecidableEq, Repr

/-- The cause of the latest refusal (R179). -/
inductive RefusalCause where
  | none
  | frame
  | queueFull
  deriving DecidableEq, Repr

/-- The state held by one port (Table 10-1), with the level of its SELn pin, the header byte of its present transaction
(R173) and the byte last shifted out on its SDOn pin in that transaction, absent while none has been and while SDOn is
not driven (R174), and absent on a port whose SELn is low but that is in no transaction (DESIGN CHOICE, log entry 15). -/
structure PortRecord where
  selLow       : Bool
  framing      : Framing
  received     : Nat
  kept         : List Byte
  header       : Byte
  sdo          : Option Byte
  requests     : List Frame
  holding      : Bool
  reservations : Nat
  responses    : List Response
  delivery     : Option Delivery
  refused      : Bool
  cause        : RefusalCause
  expired      : Bool
  deriving DecidableEq, Repr

/-- How the last session of a port ended (Table 9-1). -/
inductive EndCause where
  | none
  | close
  | expiry
  | resync
  deriving DecidableEq, Repr

/-- The lease of an OPEN session, in ticks. -/
structure Lease where
  length    : Nat
  remaining : Nat
  deriving DecidableEq, Repr

/-- The session record of a port (Table 9-1); OPEN when it has a lease. `atEngine`, `atEvents` and `atPort` say which
hand-overs of a session end are still to be taken, and `closeResponse` is the CLOSE response handed to the port with the
end (R164, R165, R168). `tickOwed` is the model's own: a tick has reached the session timer that would bring lease
remaining to 0, and the timer has still to take it (log entry 4). -/
structure Session where
  number        : SessionNumber
  lease         : Option Lease
  lastEnd       : EndCause
  tickOwed      : Bool
  atEngine      : Bool
  atEvents      : Bool
  atPort        : Bool
  closeResponse : Option Response
  deriving DecidableEq, Repr

/-! ### The whole part -/

/-- The state of the JM-432. `pending` is the queue of commands that are waiting. -/
structure State where
  pending      : List Instr
  resetLow     : Bool
  refclk       : BitVec 7
  tick         : Word32
  groups       : Vector Group 4
  notices      : Vector (Option Boundary) 4
  accs         : Vector (Option Accumulator) 32
  claimLists   : Vector (List Boundary) 32
  pool         : Nat
  monitors     : Vector (Option Monitor) 16
  jobQueues    : Vector (List Job) 4
  running      : Option Job
  grantPointer : Port
  sessions     : Vector Session 4
  ports        : Vector PortRecord 4
  eventQueues  : Vector (List EventRecord) 4
  deriving DecidableEq, Repr

/-- Why the block stops with a fault: never. No rule of the spec stops the part, so there is no constructor. -/
inductive Fault where
  deriving DecidableEq, Repr

/-- Why a command has no meaning. -/
inductive Refusal where
  /-- Raised by `exec` alone, for a command whose meaning is not written yet; safe. No arm raises it now. -/
  | notModelled (mnemonic : String)
  deriving DecidableEq, Repr

/-- A group after device reset (R78). -/
def Group.reset : Group :=
  { period := 256, countdown := none, boundaryCount := 0, owner := none, boundaryDue := false }

/-- A session record after device reset (R155). -/
def Session.reset : Session :=
  { number := 0, lease := none, lastEnd := .none, tickOwed := false,
    atEngine := false, atEvents := false, atPort := false, closeResponse := none }

/-- A port after device reset (R172), its SELn high. -/
def PortRecord.reset : PortRecord :=
  { selLow := false, framing := .idle, received := 0, kept := [], header := 0, sdo := none,
    requests := [], holding := false, reservations := 0, responses := [], delivery := none,
    refused := false, cause := .none, expired := false }

/-- The part right after device reset: RESETn has returned high, no command is waiting, and every block holds the values
of R3, R75, R77, R78, R98, R128, R154, R155 and R172; every SELn high is a DESIGN CHOICE (log entry 3). -/
def State.reset : State :=
  { pending := []
    resetLow := false
    refclk := 0
    tick := 0
    groups := Vector.replicate 4 Group.reset
    notices := Vector.replicate 4 none
    accs := Vector.replicate 32 none
    claimLists := Vector.replicate 32 []
    pool := 256
    monitors := Vector.replicate 16 none
    jobQueues := Vector.replicate 4 []
    running := none
    grantPointer := 3
    sessions := Vector.replicate 4 Session.reset
    ports := Vector.replicate 4 PortRecord.reset
    eventQueues := Vector.replicate 4 [] }

end Sys2Proof.Machine
end

