-- ==== Sys2Proof/Machine/Access.lean ====
section
/-! DEFINITION. Reading and writing the state: one reader and one writer for each kind of record, through which every
operation goes, and the views the state's absent items give (states, standing, access). -/

namespace Sys2Proof.Machine

/-- The entry of a table at an index. -/
def entry {α : Type} {n : Nat} (v : Vector α n) (i : Fin n) : α := v.get i

/-- A table with one entry replaced. -/
def withEntry {α : Type} {n : Nat} (v : Vector α n) (i : Fin n) (x : α) : Vector α n := v.set i.val x i.isLt

/-! ### Readers -/

/-- The accumulator record of `a`, absent in FREE. -/
def State.acc (s : State) (a : AccIx) : Option Accumulator := entry s.accs a

/-- The close claims held for the record of `a`, in the order of their notices (R90). -/
def State.claims (s : State) (a : AccIx) : List Boundary := entry s.claimLists a

/-- The group record of `g`. -/
def State.group (s : State) (g : GroupIx) : Group := entry s.groups g

/-- The boundary of `g` whose notice the accumulator table has still to take (R88). -/
def State.notice (s : State) (g : GroupIx) : Option Boundary := entry s.notices g

/-- The monitor record of `m`, absent in FREE. -/
def State.monitor (s : State) (m : MonIx) : Option Monitor := entry s.monitors m

/-- Job queue `p`, oldest first. -/
def State.jobs (s : State) (p : Port) : List Job := entry s.jobQueues p

/-- The session record of port `p`. -/
def State.session (s : State) (p : Port) : Session := entry s.sessions p

/-- The state port `p` holds. -/
def State.port (s : State) (p : Port) : PortRecord := entry s.ports p

/-- The event queue of port `p`, oldest first. -/
def State.events (s : State) (p : Port) : List EventRecord := entry s.eventQueues p

/-! ### Writers -/

/-- The accumulator record of `a` replaced. -/
def State.setAcc (s : State) (a : AccIx) (r : Option Accumulator) : State := { s with accs := withEntry s.accs a r }

/-- The held close claims of `a` replaced. -/
def State.setClaims (s : State) (a : AccIx) (l : List Boundary) : State :=
  { s with claimLists := withEntry s.claimLists a l }

/-- The group record of `g` replaced. -/
def State.setGroup (s : State) (g : GroupIx) (r : Group) : State := { s with groups := withEntry s.groups g r }

/-- The boundary handed over by `g` replaced. -/
def State.setNotice (s : State) (g : GroupIx) (b : Option Boundary) : State :=
  { s with notices := withEntry s.notices g b }

/-- The monitor record of `m` replaced. -/
def State.setMonitor (s : State) (m : MonIx) (r : Option Monitor) : State :=
  { s with monitors := withEntry s.monitors m r }

/-- Job queue `p` replaced. -/
def State.setJobs (s : State) (p : Port) (l : List Job) : State := { s with jobQueues := withEntry s.jobQueues p l }

/-- The session record of `p` replaced. -/
def State.setSession (s : State) (p : Port) (r : Session) : State := { s with sessions := withEntry s.sessions p r }

/-- The record of port `p` replaced. -/
def State.setPort (s : State) (p : Port) (r : PortRecord) : State := { s with ports := withEntry s.ports p r }

/-- The event queue of port `p` replaced. -/
def State.setEvents (s : State) (p : Port) (l : List EventRecord) : State :=
  { s with eventQueues := withEntry s.eventQueues p l }

/-- The free slots of the pool replaced. -/
def State.setPool (s : State) (n : Nat) : State := { s with pool := n }

/-- The tick counter replaced. -/
def State.setTick (s : State) (t : Word32) : State := { s with tick := t }

/-- The count of REFCLK periods towards the next tick replaced. -/
def State.setRefclk (s : State) (c : BitVec 7) : State := { s with refclk := c }

/-- The engine's running job replaced. -/
def State.setRunning (s : State) (j : Option Job) : State := { s with running := j }

/-- The grant pointer replaced. -/
def State.setPointer (s : State) (p : Port) : State := { s with grantPointer := p }

/-- The level of RESETn replaced. -/
def State.setResetLow (s : State) (b : Bool) : State := { s with resetLow := b }

/-- The queue of waiting commands replaced. -/
def State.setPending (s : State) (l : List Instr) : State := { s with pending := l }

/-! ### Views -/

/-- A session is OPEN when it has a lease (Table 9-1). -/
def Session.isOpen (r : Session) : Bool := r.lease.isSome

/-- The end of a session is in progress until the engine, the event queue and the port have each taken it (R165). -/
def Session.ending (r : Session) : Bool := r.atEngine || r.atEvents || r.atPort

/-- A group is RUNNING when it has a countdown (Table 4-1). -/
def Group.running (r : Group) : Bool := r.countdown.isSome

/-- `p` is a contributor (R27). -/
def Accumulator.isContributor (r : Accumulator) (p : Port) : Bool := entry r.contributors p

/-- The reader entry of `p` (R27). -/
def Accumulator.reader (r : Accumulator) (p : Port) : Option ReaderEntry := entry r.readers p

/-- `p` is the owner (R1). -/
def Accumulator.ownedBy (r : Accumulator) (p : Port) : Bool := r.owner == some p

/-- `p` has access: owner, contributor or reader (R27). -/
def Accumulator.access (r : Accumulator) (p : Port) : Bool :=
  r.ownedBy p || r.isContributor p || (r.reader p).isSome

/-- The contributors and readers, each port once, in ascending order (R9, R24, R36, R41). -/
def Accumulator.sharers (r : Accumulator) : List Port :=
  allPorts.filter fun q => r.isContributor q || (r.reader q).isSome

/-- The readers whose notify-on-close flag is set, in ascending order (R20). -/
def Accumulator.notified (r : Accumulator) : List Port :=
  allPorts.filter fun q => (r.reader q).any (·.notify)

/-- The record with the contributor standing of `p` set or cleared. -/
def Accumulator.setContributor (r : Accumulator) (p : Port) (b : Bool) : Accumulator :=
  { r with contributors := withEntry r.contributors p b }

/-- The record with the reader entry of `p` replaced. -/
def Accumulator.setReader (r : Accumulator) (p : Port) (e : Option ReaderEntry) : Accumulator :=
  { r with readers := withEntry r.readers p e }

/-- The oldest held sequence, absent when no record is held (R100). -/
def Accumulator.oldestHeld (r : Accumulator) : Option Sequence := r.ring.head?.map (·.sequence)

/-- The accumulator that a job names, absent for FENCE (Table 3-1). -/
def Work.acc? : Work → Option AccIx
  | .accumulate a _ _ _ => some a
  | .load a _ _ => some a
  | .close a => some a
  | .fence => none

/-- The target window that a job carries (Table 3-1). -/
def Work.target? : Work → Option Sequence
  | .accumulate _ _ _ t => t
  | .load _ _ t => t
  | .close _ => none
  | .fence => none

end Sys2Proof.Machine
end

