-- ==== Sys2Proof/Machine/Arithmetic.lean ====
section
/-! DEFINITION. The exact arithmetic of the part: partials and clamps (R12 to R16), read formats (R116 to R119) and the
region machine of the monitors (R133 to R135). Values are exact integers until they are narrowed. -/

namespace Sys2Proof.Machine

/-! ### Contributions (R12 to R15) -/

/-- An operand read under a mode (R12). -/
def operandValue : Mode → Word32 → Int
  | .signed, x => x.toInt
  | .unsigned, x => (x.toNat : Int)

/-- The exact sum of the products of operand pairs (R12, R13). -/
def productSum (m : Mode) : List (Word32 × Word32) → Int
  | [] => 0
  | (x, y) :: rest => operandValue m x * operandValue m y + productSum m rest

/-- The partial of an ACCUMULATE job: the sum, negated under NEGATE (R13). -/
def partialOf (m : Mode) (negate : Bool) (pairs : List (Word32 × Word32)) : Int :=
  if negate then -productSum m pairs else productSum m pairs

/-- The least wide value, −2^71. -/
def wideMin : Int := -(2 ^ 71)

/-- The greatest wide value, 2^71 − 1. -/
def wideMax : Int := 2 ^ 71 - 1

/-- A sum clamped to the wide range (R14). -/
def clampWide (x : Int) : Wide :=
  if wideMax < x then BitVec.ofInt 72 wideMax
  else if x < wideMin then BitVec.ofInt 72 wideMin
  else BitVec.ofInt 72 x

/-- A sum lies outside the wide range, so that it is clamped (R14). -/
def outsideWide (x : Int) : Bool := decide (wideMax < x) || decide (x < wideMin)

/-- A count increased by a number of pairs, staying at 2^32 − 1 when it would pass it (R15). -/
def addCount (c : Word32) (n : Nat) : Word32 :=
  if Config.maxCount < c.toNat + n then BitVec.ofNat 32 Config.maxCount else BitVec.ofNat 32 (c.toNat + n)

/-- A partial applied to a record: live value, saturated flag and count (R14, R15). -/
def Accumulator.applyPartial (r : Accumulator) (x : Int) (pairs : Nat) : Accumulator :=
  { r with live := clampWide (r.live.toInt + x)
           saturated := r.saturated || outsideWide (r.live.toInt + x)
           count := addCount r.count pairs }

/-- A load applied to a record: the load value sign-extended, the saturated flag cleared (R16). -/
def Accumulator.applyLoad (r : Accumulator) (v : Word64) : Accumulator :=
  { r with live := v.signExtend 72, saturated := false }

/-! ### Read formats (R116 to R119) -/

/-- The format RAW (R119). -/
def ReadFormat.rawFormat : ReadFormat := { shift := 0, rounding := .truncate, width := .raw, limit := .wrap }

/-- The shift step (R117): division by 2^k toward −∞, after the addition of 2^(k−1) under NEAREST. -/
def ReadFormat.shifted (f : ReadFormat) (v : Int) : Int :=
  if f.shift.val = 0 then v
  else match f.rounding with
    | .truncate => v.fdiv (2 ^ f.shift.val)
    | .nearest => (v + 2 ^ (f.shift.val - 1)).fdiv (2 ^ f.shift.val)

/-- The bits of a width, RAW counting as 72 (Table 11-3, footnote 3). -/
def Width.bits : Width → Nat
  | .w16 => 16
  | .w32 => 32
  | .w64 => 64
  | .raw => 72

/-- The width step's presented value (R118): the value itself inside the range, an end of the range under CLAMP, the low
bits as two's complement under WRAP. RAW never consults the limit. -/
def ReadFormat.narrowed (f : ReadFormat) (x : Int) : Int :=
  match f.width, f.limit with
  | .raw, _ => x
  | w, .wrap => (BitVec.ofInt w.bits x).toInt
  | w, .clamp =>
    if 2 ^ (w.bits - 1) - 1 < x then 2 ^ (w.bits - 1) - 1
    else if x < -(2 ^ (w.bits - 1)) then -(2 ^ (w.bits - 1))
    else x

/-- The CLAMPED indication (R118). -/
def ReadFormat.clamps (f : ReadFormat) (x : Int) : Bool :=
  match f.width, f.limit with
  | .raw, _ => false
  | _, .wrap => false
  | w, .clamp => decide (2 ^ (w.bits - 1) - 1 < x) || decide (x < -(2 ^ (w.bits - 1)))

/-- The presented value of a wide value under a format (R116). -/
def ReadFormat.present (f : ReadFormat) (v : Wide) : Int := f.narrowed (f.shifted v.toInt)

/-- The CLAMPED indication of a wide value under a format (R116). -/
def ReadFormat.clamped (f : ReadFormat) (v : Wide) : Bool := f.clamps (f.shifted v.toInt)

/-! ### The region machine (R133 to R135) -/

/-- The region after an evaluation of the exact value `v` (R133). -/
def MonitorConfig.regionAfter (c : MonitorConfig) (r : Region) (v : Int) : Region :=
  let low := c.low.toInt
  let high := c.high.toInt
  let margin : Int := c.hysteresis.toNat
  match r with
  | .unknown => if low ≤ v ∧ v ≤ high then .inside else if high < v then .above else .below
  | .inside => if high < v then .above else if v < low then .below else .inside
  | .above => if v < low then .below else if v ≤ high - margin then .inside else .above
  | .below => if high < v then .above else if low + margin ≤ v then .inside else .below

/-- A region is in the report mask. -/
def MonitorConfig.masks (c : MonitorConfig) : Region → Bool
  | .unknown => false
  | .inside => c.toInside
  | .above => c.toAbove
  | .below => c.toBelow

/-- A change of region from `r` to `r'` is reported (R134): it is in the mask, and not a move from UNKNOWN to INSIDE. -/
def MonitorConfig.reports (c : MonitorConfig) (r r' : Region) : Bool :=
  decide (r ≠ r') && c.masks r' && !(decide (r = .unknown) && decide (r' = .inside))

/-- A wide value clamped to the signed 64-bit range (R135). -/
def clamp64 (v : Int) : Word64 :=
  if 2 ^ 63 - 1 < v then BitVec.ofInt 64 (2 ^ 63 - 1)
  else if v < -(2 ^ 63) then BitVec.ofInt 64 (-(2 ^ 63))
  else BitVec.ofInt 64 v

end Sys2Proof.Machine
end

