-- ==== Sys2Proof/Machine/Bytes.lean ====
section
/-! DEFINITION. Bytes: big-endian fields (R189) and the CRC-8 of every frame (R176). -/

namespace Sys2Proof.Machine

/-- The low `n` bytes of a number, most significant first (R189). -/
def beBytes : Nat → Nat → List Byte
  | 0, _ => []
  | n + 1, v => BitVec.ofNat 8 (v / 256 ^ n) :: beBytes n v

/-- The number that bytes stand for, most significant first (R189). -/
def beNat (l : List Byte) : Nat := l.foldl (fun acc b => acc * 256 + b.toNat) 0

/-- A word as its bytes, most significant first, `n` of them. -/
def wordBytes {w : Nat} (n : Nat) (x : BitVec w) : List Byte := beBytes n x.toNat

/-- A word read from bytes. -/
def wordOf (w : Nat) (l : List Byte) : BitVec w := BitVec.ofNat w (beNat l)

/-- A byte from a small number. -/
def byte (n : Nat) : Byte := BitVec.ofNat 8 n

/-- The weight of bit `k` when a flag is set, else 0. -/
def flagBit (k : Nat) (b : Bool) : Nat := if b then 2 ^ k else 0

/-- One shift of the CRC register: left one place, and 0x07 combined in when a 1 leaves the top place (R176). -/
def crcShift (c : Byte) : Byte := if c.msb then (c <<< 1) ^^^ 0x07#8 else c <<< 1

/-- One byte combined into the CRC register and shifted eight times (R176). -/
def crcByte (c b : Byte) : Byte :=
  crcShift (crcShift (crcShift (crcShift (crcShift (crcShift (crcShift (crcShift (c ^^^ b))))))))

/-- The CRC-8 of a run of bytes: polynomial x^8 + x^2 + x + 1, initial value 0x00 (R176). -/
def crc8 (l : List Byte) : Byte := l.foldl crcByte 0

end Sys2Proof.Machine
end

