-- ==== Sys2Proof/Machine/Payload.lean ====
section
/-! DEFINITION. The bytes of responses and event records (R189, R192 to R194, Tables 11-9 to 11-17). -/

namespace Sys2Proof.Machine

/-- The status code (Table 11-17). -/
def Status.code : Status → Byte
  | .ok => 0x00
  | .cancelled => 0x01
  | .badKind => 0x10
  | .badLength => 0x11
  | .badField => 0x12
  | .badState => 0x13
  | .noSession => 0x20
  | .alreadyOpen => 0x21
  | .notOwner => 0x30
  | .notAuthorised => 0x31
  | .inUse => 0x32
  | .noAccumulator => 0x33
  | .noHistorySpace => 0x34
  | .notEmpty => 0x35
  | .gone => 0x36
  | .windowPassed => 0x40
  | .windowNotOpen => 0x41
  | .notFound => 0x42
  | .busy => 0x43
  | .noOffer => 0x44
  | .alreadyOwned => 0x45
  | .notSubscribed => 0x46
  | .notHeld => 0x47
  | .noMonitor => 0x48
  | .sequenceLimit => 0x49

/-- The response frame that follows the status header: length M, tag, status code, payload and CRC (R174, R176). -/
def Response.frame (r : Response) : List Byte :=
  let run := byte (2 + r.payload.length) :: r.tag :: r.status.code :: r.payload
  run ++ [crc8 run]

/-! ### Codes (Tables 11-1, 11-2, 11-8) -/

/-- A port as a byte. -/
def portByte (p : Port) : Byte := byte p.val

/-- An optional port as a byte, 0xFF when absent. -/
def portOrAbsent : Option Port → Byte
  | some p => portByte p
  | none => 0xFF#8

/-- The binding code. -/
def Binding.code : Binding → Byte
  | .group g => byte g.val
  | .manual => 0x0F#8

/-- The first byte of the policy pair (Table 11-2). -/
def Policies.code (p : Policies) : Byte :=
  byte (flagBit 0 (p.mode == .unsigned) + flagBit 1 (p.closeAction == .carry)
    + flagBit 2 (p.readerPolicy == .publicAccess) + flagBit 3 (p.orphanPolicy == .drop))

/-- The last end cause code. -/
def EndCause.code : EndCause → Byte
  | .none => 0x00
  | .close => 0x01
  | .expiry => 0x02
  | .resync => 0x03

/-- The region code. -/
def Region.code : Region → Byte
  | .unknown => 0x00
  | .inside => 0x01
  | .above => 0x02
  | .below => 0x03

/-- The width code. -/
def Width.code : Width → Nat
  | .w16 => 0
  | .w32 => 1
  | .w64 => 2
  | .raw => 3

/-- The monitor configuration byte (Table 11-8). -/
def MonitorConfig.code (c : MonitorConfig) : Byte :=
  byte (flagBit 0 (c.source == .closed) + flagBit 1 c.toInside + flagBit 2 c.toAbove
    + flagBit 3 c.toBelow + flagBit 4 c.notifyReaders)

/-- A sequence in 6 bytes, 0 when absent (R189). -/
def sequenceOrAbsent : Option Sequence → List Byte
  | some q => wordBytes 6 q
  | none => beBytes 6 0

/-- A set of ports as a byte, bit n for Pn. -/
def portSet (f : Port → Bool) : Byte :=
  byte (flagBit 0 (f 0) + flagBit 1 (f 1) + flagBit 2 (f 2) + flagBit 3 (f 3))

/-! ### Presented values and records (R193, Table 11-13) -/

/-- The presentation byte: the width code and the CLAMPED indication. -/
def presentation (f : ReadFormat) (v : Wide) : Byte := byte (f.width.code + flagBit 7 (f.clamped v))

/-- The presented value in w/8 bytes, w-bit two's complement. -/
def presentedBytes (f : ReadFormat) (v : Wide) : List Byte :=
  wordBytes (f.width.bits / 8) (BitVec.ofInt f.width.bits (f.present v))

/-- The record flags byte: saturated, cause, group. -/
def ClosedRecord.flags (r : ClosedRecord) : Byte :=
  match r.cause with
  | .scheduled g _ => byte (flagBit 0 r.saturated + 16 * g.val)
  | .manual => byte (flagBit 0 r.saturated + 2)

/-- The boundary count field, 0 for MANUAL. -/
def Cause.countField : Cause → Word32
  | .scheduled _ n => n
  | .manual => 0

/-- A closed-window record as sent under a format (Table 11-13). -/
def ClosedRecord.bytes (f : ReadFormat) (r : ClosedRecord) : List Byte :=
  wordBytes 6 r.sequence ++ [r.flags, presentation f r.value] ++ wordBytes 4 r.count
    ++ wordBytes 4 r.cause.countField ++ wordBytes 4 r.tick ++ presentedBytes f r.value

/-! ### Event records (R194, Tables 11-14 and 11-15) -/

/-- The kind code of an event. -/
def Event.code : Event → Byte
  | .windowClosed .. => 0x01
  | .threshold .. => 0x02
  | .monitorDetached .. => 0x03
  | .accGone .. => 0x04
  | .accOrphaned .. => 0x05
  | .accClaimed .. => 0x06
  | .offer .. => 0x07
  | .offerWithdrawn .. => 0x08
  | .offerEnded .. => 0x09
  | .rightsChanged .. => 0x0A
  | .eventsLost .. => 0x0B

/-- The object byte: an accumulator or monitor index, 0xFF for EVENTS_LOST. -/
def Event.object : Event → Byte
  | .windowClosed a _ _ => byte a.val
  | .threshold m _ _ _ => byte m.val
  | .monitorDetached m _ _ => byte m.val
  | .accGone a _ => byte a.val
  | .accOrphaned a => byte a.val
  | .accClaimed a _ => byte a.val
  | .offer a _ _ => byte a.val
  | .offerWithdrawn a => byte a.val
  | .offerEnded a _ => byte a.val
  | .rightsChanged a _ => byte a.val
  | .eventsLost _ => 0xFF#8

/-- The accumulator byte, for the two kinds whose object is a monitor. -/
def Event.accByte : Event → Byte
  | .threshold _ a _ _ => byte a.val
  | .monitorDetached _ a _ => byte a.val
  | .windowClosed .. | .accGone .. | .accOrphaned .. | .accClaimed .. | .offer ..
  | .offerWithdrawn .. | .offerEnded .. | .rightsChanged .. | .eventsLost .. => 0xFF#8

/-- The detail byte (Table 11-15). -/
def Event.detail : Event → Byte
  | .windowClosed _ _ byManual => byte (flagBit 0 byManual)
  | .threshold _ _ r _ => r.code
  | .monitorDetached _ _ .released => 0x00
  | .monitorDetached _ _ .accessLost => 0x01
  | .accGone _ .released => 0x00
  | .accGone _ .ownerEnded => 0x01
  | .accOrphaned _ => 0x00
  | .accClaimed _ p => portByte p
  | .offer _ p keep => byte (p.val + flagBit 7 keep)
  | .offerWithdrawn _ => 0x00
  | .offerEnded _ p => portByte p
  | .rightsChanged _ granted => if granted then 0x00 else 0x01
  | .eventsLost _ => 0x00

/-- The 8-byte argument: sequence, value or lost count, else 0. -/
def Event.argument : Event → List Byte
  | .windowClosed _ q _ => wordBytes 8 q
  | .threshold _ _ _ v => wordBytes 8 v
  | .eventsLost n => beBytes 8 n
  | .monitorDetached .. | .accGone .. | .accOrphaned .. | .accClaimed .. | .offer ..
  | .offerWithdrawn .. | .offerEnded .. | .rightsChanged .. => beBytes 8 0

/-- An event record as sent, 16 bytes (Table 11-14). -/
def EventRecord.bytes (e : EventRecord) : List Byte :=
  [e.event.code, e.event.object, e.event.accByte, e.event.detail] ++ e.event.argument ++ wordBytes 4 e.tick

/-! ### Payloads of OK responses (Tables 11-9 and 11-10) -/

/-- OPEN: session number, last end cause. -/
def openPayload (r : Session) : List Byte := wordBytes 2 r.number ++ [r.lastEnd.code]

/-- PORT_STATUS in OPEN: state, number, lease length, lease remaining, last end cause, tick counter. -/
def statusPayload (r : Session) (l : Lease) (tick : Word32) : List Byte :=
  [0x01#8] ++ wordBytes 2 r.number ++ beBytes 2 l.length ++ beBytes 2 l.remaining
    ++ [r.lastEnd.code] ++ wordBytes 4 tick

/-- The accumulator state code. -/
def Accumulator.stateCode (r : Accumulator) : Byte := if r.owner.isSome then 0x01 else 0x02

/-- The info flags byte of ACC_INFO (Table 11-9). With no offer present no rule gives bit 3, the offer's keep-contributor
flag, a form; DESIGN CHOICE, log entry 16: it is sent as 0. -/
def Accumulator.infoFlags (r : Accumulator) : Byte :=
  byte (flagBit 0 r.saturated + flagBit 1 r.oldestHeld.isSome + flagBit 2 r.offer.isSome
    + flagBit 3 (r.offer.any (·.keep)))

/-- ACC_INFO: the state alone for a FREE record, else 26 bytes. -/
def infoPayload : Option Accumulator → List Byte
  | none => [0x00#8]
  | some r =>
    [r.stateCode, portOrAbsent r.owner, r.policies.code, r.policies.binding.code]
      ++ wordBytes 6 r.openSequence ++ wordBytes 4 r.count
      ++ [r.infoFlags, byte r.depth, byte r.ring.length] ++ sequenceOrAbsent r.oldestHeld
      ++ [portSet r.isContributor, portSet fun p => (r.reader p).isSome,
          portOrAbsent (r.offer.map (·.port))]

/-- A job that landed or a window that was closed: sequence, count, result flags. -/
def resultPayload (q : Sequence) (count : Word32) (saturated : Bool) : List Byte :=
  wordBytes 6 q ++ wordBytes 4 count ++ [byte (flagBit 0 saturated)]

/-- SUBSCRIBE: cursor, open sequence. -/
def subscribePayload (cursor openSequence : Sequence) : List Byte := wordBytes 6 cursor ++ wordBytes 6 openSequence

/-- HISTORY_RESIZE: depth after, held count, resize flags, oldest held sequence, free slots. -/
def resizePayload (r : Accumulator) (free : Nat) : List Byte :=
  [byte r.depth, byte r.ring.length, byte (flagBit 0 r.oldestHeld.isSome)]
    ++ sequenceOrAbsent r.oldestHeld ++ beBytes 2 free

/-- GROUP_INFO: state, owner, period, countdown, boundary count, tick counter. -/
def groupPayload (r : Group) (tick : Word32) : List Byte :=
  [byte (flagBit 0 r.running), portOrAbsent r.owner] ++ beBytes 2 r.period
    ++ beBytes 2 (r.countdown.getD 0) ++ wordBytes 4 r.boundaryCount ++ wordBytes 4 tick

/-- MON_INFO: the state alone for a FREE monitor, else 25 bytes. -/
def monitorPayload : Option Monitor → List Byte
  | none => [0x00#8]
  | some m =>
    [if m.armed then 0x01#8 else 0x02#8, portByte m.owner, byte m.acc.val, m.config.code, m.region.code]
      ++ wordBytes 8 m.config.low ++ wordBytes 8 m.config.high ++ wordBytes 4 m.config.hysteresis

/-- READ_LIVE: presentation, value flags, open sequence, count, presented value. -/
def livePayload (f : ReadFormat) (r : Accumulator) : List Byte :=
  [presentation f r.live, byte (flagBit 0 r.saturated)] ++ wordBytes 6 r.openSequence
    ++ wordBytes 4 r.count ++ presentedBytes f r.live

/-- READ_HISTORY: history flags, number of records, missed count, cursor, open sequence, records. -/
def historyPayload (f : ReadFormat) (missed : Option Sequence) (cursor openSequence : Sequence)
    (records : List ClosedRecord) : List Byte :=
  [byte (flagBit 0 missed.isSome), byte records.length] ++ sequenceOrAbsent missed
    ++ wordBytes 6 cursor ++ wordBytes 6 openSequence ++ records.flatMap (ClosedRecord.bytes f)

/-- EVENT_FETCH: number of records, remaining, records. -/
def fetchPayload (taken : List EventRecord) (remaining : Nat) : List Byte :=
  [byte taken.length, byte remaining] ++ taken.flatMap EventRecord.bytes

end Sys2Proof.Machine
end

