-- ==== Sys2Proof/Machine/Flags.lean ====
section
/-! DEFINITION. The flags a port shows: LEASE_LOW (R161), the status header byte (R185, Tables 10-3 and 11-16) and the
attention output (R186). None of them is stored: each is read from the items that decide it. -/

namespace Sys2Proof.Machine

/-- LEASE_LOW: OPEN, and four times lease remaining is less than the lease length (R161). -/
def Session.leaseLow (r : Session) : Bool := r.lease.any fun l => decide (4 * l.remaining < l.length)

/-- The CAUSE code of the status header (Table 11-16). -/
def RefusalCause.code : RefusalCause → Nat
  | .none => 0
  | .frame => 1
  | .queueFull => 2

/-- The status header byte of port `p`, formed from the flags as they stand (R173, R185, Table 11-16). -/
def State.header (s : State) (p : Port) : Byte :=
  byte (flagBit 7 (!(s.port p).responses.isEmpty) + flagBit 6 (!(s.events p).isEmpty)
    + flagBit 5 (s.session p).isOpen + flagBit 4 (s.session p).leaseLow
    + flagBit 3 (s.port p).refused + flagBit 2 (s.port p).expired + (s.port p).cause.code)

/-- A header byte shows REFUSED (Table 11-16). -/
def showsRefused (header : Byte) : Bool := header.getLsbD 3

/-- ATTNn is asserted: the response queue or the event queue of the port holds something (R186). -/
def State.attention (s : State) (p : Port) : Bool := !(s.port p).responses.isEmpty || !(s.events p).isEmpty

end Sys2Proof.Machine
end

