-- ==== Sys2Proof/Machine/Operands.lean ====
section
/-! DEFINITION. The operands of requests: the kind codes, the payload length and the fields of each request frame, as the
decoder reads and checks them (R182 steps 3 and 4, R190, R191, Tables 11-1 to 11-8 and 11-11). A wrong length is
BAD_LENGTH; a field with a value the tables do not define is BAD_FIELD. -/

namespace Sys2Proof.Machine

/-- The kinds of request (Table 11-3); NULL and RESYNC are framing and not requests. -/
inductive Kind where
  | openSession | closeSession | portStatus
  | accCreate | accConfigure | accRelease | accInfo
  | accGrant | accOffer | accAccept | accClaim | subscribe | unsubscribe
  | accumulate | load | closeWindow | fence | jobCancel
  | readLive | readHistory | readRecord | historyResize
  | groupClaim | groupSet | groupStart | groupStop | groupRelease | groupInfo
  | monCreate | monAttach | monFree | monInfo
  | eventFetch
  deriving DecidableEq, Repr

/-- The kind code (Table 11-3). -/
def Kind.code : Kind → Byte
  | .openSession => 0x01
  | .closeSession => 0x02
  | .portStatus => 0x03
  | .accCreate => 0x10
  | .accConfigure => 0x11
  | .accRelease => 0x12
  | .accInfo => 0x13
  | .accGrant => 0x18
  | .accOffer => 0x19
  | .accAccept => 0x1A
  | .accClaim => 0x1B
  | .subscribe => 0x1C
  | .unsubscribe => 0x1D
  | .accumulate => 0x20
  | .load => 0x21
  | .closeWindow => 0x22
  | .fence => 0x23
  | .jobCancel => 0x24
  | .readLive => 0x28
  | .readHistory => 0x29
  | .readRecord => 0x2A
  | .historyResize => 0x2B
  | .groupClaim => 0x30
  | .groupSet => 0x31
  | .groupStart => 0x32
  | .groupStop => 0x33
  | .groupRelease => 0x34
  | .groupInfo => 0x35
  | .monCreate => 0x38
  | .monAttach => 0x39
  | .monFree => 0x3A
  | .monInfo => 0x3B
  | .eventFetch => 0x40

/-- Every kind of request, in the order of Table 11-3. -/
def allKinds : List Kind :=
  [.openSession, .closeSession, .portStatus, .accCreate, .accConfigure, .accRelease, .accInfo,
   .accGrant, .accOffer, .accAccept, .accClaim, .subscribe, .unsubscribe,
   .accumulate, .load, .closeWindow, .fence, .jobCancel,
   .readLive, .readHistory, .readRecord, .historyResize,
   .groupClaim, .groupSet, .groupStart, .groupStop, .groupRelease, .groupInfo,
   .monCreate, .monAttach, .monFree, .monInfo, .eventFetch]

/-- A kind byte is one that Table 11-3 defines as a request (R182, step 1). -/
def knownKind (b : Byte) : Bool := allKinds.any fun k => k.code == b

/-! ### Fields (Tables 11-1, 11-2, 11-6, 11-8, 11-11) -/

/-- An accumulator index, 0x00 to 0x1F. -/
def accField (b : Byte) : Option AccIx := indexBelow 32 b.toNat

/-- A group index, 0x00 to 0x03. -/
def groupField (b : Byte) : Option GroupIx := indexBelow 4 b.toNat

/-- A monitor index, 0x00 to 0x0F. -/
def monField (b : Byte) : Option MonIx := indexBelow 16 b.toNat

/-- A target port, 0x00 to 0x03. -/
def portField (b : Byte) : Option Port := indexBelow 4 b.toNat

/-- The accumulator index of ACC_CREATE: 0xFF stands for "any", given here as `none`. -/
def createField (b : Byte) : Option (Option AccIx) := if b = 0xFF#8 then some none else (accField b).map some

/-- The target of ACC_OFFER: 0xFF stands for none. -/
def offerField (b : Byte) : Option (Option Port) := if b = 0xFF#8 then some none else (portField b).map some

/-- A one-byte boolean: 0x00 or 0x01 (R189). -/
def boolField (b : Byte) : Option Bool :=
  if b = 0#8 then some false else if b = 1#8 then some true else none

/-- A number within bounds. -/
def boundedField (lo hi n : Nat) : Option Nat := if lo ≤ n ∧ n ≤ hi then some n else none

/-- A binding: 0x00 to 0x03 for a group, 0x0F for MANUAL. -/
def bindingField (b : Byte) : Option Binding := if b = 0x0F#8 then some .manual else (groupField b).map .group

/-- The policy pair (Table 11-2); reserved bits 7 to 4 of its first byte are 0. -/
def policiesField (b binding : Byte) : Option Policies :=
  if b.toNat < 16 then
    (bindingField binding).map fun bind =>
      { mode := if b.getLsbD 0 then .unsigned else .signed
        closeAction := if b.getLsbD 1 then .carry else .clear
        readerPolicy := if b.getLsbD 2 then .publicAccess else .privateAccess
        orphanPolicy := if b.getLsbD 3 then .drop else .keep
        binding := bind }
  else none

/-- A read format byte pair (Table 11-11); reserved bits 7 to 2 of its second byte are 0. -/
def formatField (b0 b1 : Byte) : Option ReadFormat :=
  if b1.toNat < 4 then
    some { shift := Fin.ofNat 64 b0.toNat
           rounding := if b0.getLsbD 6 then .nearest else .truncate
           width := if b1 = 0#8 then .w16 else if b1 = 1#8 then .w32 else if b1 = 2#8 then .w64 else .raw
           limit := if b0.getLsbD 7 then .clamp else .wrap }
  else none

/-- A request that is checked field by field answers BAD_FIELD where a field fails (R191). -/
def checkFields {α : Type} : Option α → Except Status α
  | some x => .ok x
  | none => .error .badField

/-! ### Payloads (Tables 11-4, 11-5 and 11-7) -/

/-- OPEN: the lease length, 16 to 8192. -/
def openOperands : List Byte → Except Status Nat
  | [b1, b0] => checkFields (boundedField Config.minLease Config.maxLease (beNat [b1, b0]))
  | _ => .error .badLength

/-- CLOSE, PORT_STATUS and FENCE carry no payload. -/
def emptyOperands : List Byte → Except Status Unit
  | [] => .ok ()
  | _ => .error .badLength

/-- What ACC_CREATE carries. -/
structure CreateArgs where
  target   : Option AccIx
  policies : Policies
  depth    : Nat
  deriving DecidableEq, Repr

/-- ACC_CREATE: index or "any", policy pair, history depth. -/
def createOperands : List Byte → Except Status CreateArgs
  | [ix, pol, bind, depth] => checkFields
      (match createField ix, policiesField pol bind, boundedField 0 Config.maxDepth depth.toNat with
       | some t, some p, some d => some { target := t, policies := p, depth := d }
       | _, _, _ => none)
  | _ => .error .badLength

/-- ACC_CONFIGURE: accumulator, policy pair. -/
def configureOperands : List Byte → Except Status (AccIx × Policies)
  | [ix, pol, bind] => checkFields
      (match accField ix, policiesField pol bind with
       | some a, some p => some (a, p)
       | _, _ => none)
  | _ => .error .badLength

/-- ACC_RELEASE, ACC_INFO, ACC_ACCEPT, ACC_CLAIM, UNSUBSCRIBE and CLOSE_WINDOW: an accumulator. -/
def accOperand : List Byte → Except Status AccIx
  | [ix] => checkFields (accField ix)
  | _ => .error .badLength

/-- What ACC_GRANT carries; `remove` is the action 0x01. -/
structure GrantArgs where
  acc    : AccIx
  target : Port
  remove : Bool
  deriving DecidableEq, Repr

/-- ACC_GRANT: accumulator, target port, action. -/
def grantOperands : List Byte → Except Status GrantArgs
  | [ix, target, action] => checkFields
      (match accField ix, portField target, boolField action with
       | some a, some t, some r => some { acc := a, target := t, remove := r }
       | _, _, _ => none)
  | _ => .error .badLength

/-- What ACC_OFFER carries. -/
structure OfferArgs where
  acc    : AccIx
  target : Option Port
  keep   : Bool
  deriving DecidableEq, Repr

/-- ACC_OFFER: accumulator, target port or none, keep-contributor. -/
def offerOperands : List Byte → Except Status OfferArgs
  | [ix, target, keep] => checkFields
      (match accField ix, offerField target, boolField keep with
       | some a, some t, some k => some { acc := a, target := t, keep := k }
       | _, _, _ => none)
  | _ => .error .badLength

/-- What SUBSCRIBE carries; `next` is the start NEXT. -/
structure SubscribeArgs where
  acc    : AccIx
  next   : Bool
  notify : Bool
  format : ReadFormat
  deriving DecidableEq, Repr

/-- SUBSCRIBE: accumulator, options byte with reserved bits 7 to 2, default read format. -/
def subscribeOperands : List Byte → Except Status SubscribeArgs
  | [ix, options, f0, f1] => checkFields
      (match accField ix, formatField f0 f1 with
       | some a, some f =>
         if options.toNat < 4 then
           some { acc := a, next := options.getLsbD 0, notify := options.getLsbD 1, format := f }
         else none
       | _, _ => none)
  | _ => .error .badLength

/-- The number of operand pairs a control byte gives, bits 4 to 0 (Table 11-6). -/
def pairCount (control : Byte) : Nat := control.toNat % 32

/-- The bytes that a target window takes, by bit 6 of the control byte (Table 11-6, R190). -/
def targetBytes (control : Byte) : Nat := if control.getLsbD 6 then 6 else 0

/-- Operand pairs of 8 bytes each, in the order of the frame. -/
def pairsOf : Nat → List Byte → List (Word32 × Word32)
  | 0, _ => []
  | n + 1, l => (wordOf 32 (l.take 4), wordOf 32 ((l.drop 4).take 4)) :: pairsOf n (l.drop 8)

/-- The target window after the other fields, present when bit 6 of the control byte is set. -/
def targetOf (control : Byte) (l : List Byte) : Option Sequence :=
  if control.getLsbD 6 then some (wordOf 48 (l.take 6)) else none

/-- ACCUMULATE: accumulator, control byte, pairs, target window (R50, R190): the pair count is judged before the length,
and the accumulator and reserved bit 5 after it. -/
def accumulateOperands : List Byte → Except Status Work
  | ix :: control :: rest =>
    if pairCount control = 0 ∨ 16 < pairCount control then .error .badField
    else if rest.length ≠ 8 * pairCount control + targetBytes control then .error .badLength
    else checkFields
      (match accField ix with
       | some a =>
         if control.getLsbD 5 then none
         else some (.accumulate a (pairsOf (pairCount control) rest) (control.getLsbD 7)
           (targetOf control (rest.drop (8 * pairCount control))))
       | none => none)
  | _ => .error .badLength

/-- LOAD: accumulator, control byte with bits 7 and 5 to 0 reserved, load value, target window (R190). -/
def loadOperands : List Byte → Except Status Work
  | ix :: control :: rest =>
    if rest.length ≠ 8 + targetBytes control then .error .badLength
    else checkFields
      (match accField ix with
       | some a =>
         if control.toNat % 64 ≠ 0 ∨ control.getLsbD 7 then none
         else some (.load a (wordOf 64 (rest.take 8)) (targetOf control (rest.drop 8)))
       | none => none)
  | _ => .error .badLength

/-- CLOSE_WINDOW: an accumulator. -/
def closeWindowOperands (l : List Byte) : Except Status Work :=
  match accOperand l with
  | .ok a => .ok (.close a)
  | .error e => .error e

/-- FENCE: nothing. -/
def fenceOperands (l : List Byte) : Except Status Work :=
  match emptyOperands l with
  | .ok _ => .ok .fence
  | .error e => .error e

/-- JOB_CANCEL: a tag, any value. -/
def cancelOperands : List Byte → Except Status Byte
  | [tag] => .ok tag
  | _ => .error .badLength

/-- READ_LIVE: accumulator, and a read format when L is 3. -/
def readLiveOperands : List Byte → Except Status (AccIx × Option ReadFormat)
  | [ix] => checkFields ((accField ix).map fun a => (a, none))
  | [ix, f0, f1] => checkFields
      (match accField ix, formatField f0 f1 with
       | some a, some f => some (a, some f)
       | _, _ => none)
  | _ => .error .badLength

/-- What READ_HISTORY carries. -/
structure HistoryArgs where
  acc     : AccIx
  maximum : Nat
  format  : Option ReadFormat
  deriving DecidableEq, Repr

/-- READ_HISTORY: accumulator, maximum 1 to 4, and a read format when L is 4. -/
def readHistoryOperands : List Byte → Except Status HistoryArgs
  | [ix, m] => checkFields
      (match accField ix, boundedField 1 4 m.toNat with
       | some a, some n => some { acc := a, maximum := n, format := none }
       | _, _ => none)
  | [ix, m, f0, f1] => checkFields
      (match accField ix, boundedField 1 4 m.toNat, formatField f0 f1 with
       | some a, some n, some f => some { acc := a, maximum := n, format := some f }
       | _, _, _ => none)
  | _ => .error .badLength

/-- READ_RECORD: accumulator, sequence of 6 bytes. -/
def readRecordOperands : List Byte → Except Status (AccIx × Sequence)
  | [ix, b5, b4, b3, b2, b1, b0] =>
      checkFields ((accField ix).map fun a => (a, wordOf 48 [b5, b4, b3, b2, b1, b0]))
  | _ => .error .badLength

/-- HISTORY_RESIZE: accumulator, new depth 0 to 32. -/
def resizeOperands : List Byte → Except Status (AccIx × Nat)
  | [ix, depth] => checkFields
      (match accField ix, boundedField 0 Config.maxDepth depth.toNat with
       | some a, some d => some (a, d)
       | _, _ => none)
  | _ => .error .badLength

/-- GROUP_CLAIM, GROUP_STOP, GROUP_RELEASE and GROUP_INFO: a group. -/
def groupOperand : List Byte → Except Status GroupIx
  | [g] => checkFields (groupField g)
  | _ => .error .badLength

/-- GROUP_SET: group, period 1 to 65535. -/
def groupSetOperands : List Byte → Except Status (GroupIx × Nat)
  | [g, b1, b0] => checkFields
      (match groupField g, boundedField 1 65535 (beNat [b1, b0]) with
       | some g, some n => some (g, n)
       | _, _ => none)
  | _ => .error .badLength

/-- GROUP_START: group, and a phase 1 to 65535 when L is 3. -/
def groupStartOperands : List Byte → Except Status (GroupIx × Option Nat)
  | [g] => checkFields ((groupField g).map fun g => (g, none))
  | [g, b1, b0] => checkFields
      (match groupField g, boundedField 1 65535 (beNat [b1, b0]) with
       | some g, some n => some (g, some n)
       | _, _ => none)
  | _ => .error .badLength

/-- The bound tests of MON_CREATE on exact integers: low not above high, twice the hysteresis not above high − low
(R130). -/
def boundsDefined (low high : Word64) (hysteresis : Word32) : Bool :=
  decide (low.toInt ≤ high.toInt) && decide (2 * (hysteresis.toNat : Int) ≤ high.toInt - low.toInt)

/-- MON_CREATE: accumulator, monitor configuration byte with reserved bits 7 to 5, low, high, hysteresis. -/
def monCreateOperands : List Byte → Except Status (AccIx × MonitorConfig)
  | ix :: config :: rest =>
    if rest.length ≠ 20 then .error .badLength
    else checkFields
      (match accField ix with
       | some a =>
         let low := wordOf 64 (rest.take 8)
         let high := wordOf 64 ((rest.drop 8).take 8)
         let hysteresis := wordOf 32 (rest.drop 16)
         if config.toNat < 32 ∧ boundsDefined low high hysteresis then
           some (a, { source := if config.getLsbD 0 then .closed else .live
                      low := low, high := high, hysteresis := hysteresis
                      toInside := config.getLsbD 1, toAbove := config.getLsbD 2
                      toBelow := config.getLsbD 3, notifyReaders := config.getLsbD 4 })
         else none
       | none => none)
  | _ => .error .badLength

/-- MON_ATTACH: monitor, accumulator. -/
def monAttachOperands : List Byte → Except Status (MonIx × AccIx)
  | [m, ix] => checkFields
      (match monField m, accField ix with
       | some m, some a => some (m, a)
       | _, _ => none)
  | _ => .error .badLength

/-- MON_FREE and MON_INFO: a monitor. -/
def monOperand : List Byte → Except Status MonIx
  | [m] => checkFields (monField m)
  | _ => .error .badLength

/-- EVENT_FETCH: maximum 1 to 8. -/
def fetchOperands : List Byte → Except Status Nat
  | [m] => checkFields (boundedField 1 8 m.toNat)
  | _ => .error .badLength

end Sys2Proof.Machine
end

