-- ==== Sys2Proof/Machine/Ops.lean ====
section
/-! DEFINITION. The operations that several commands share: posting events, forming responses, evaluating and detaching
monitors, the close of a window, the release of an accumulator, the end of a session, and the decoder's serving of the
request at the head of a port's request queue. -/

namespace Sys2Proof.Machine

/-! ### Events (R144 to R149) -/

/-- A post against an event queue as it stands (R146, R147): appended with fewer than 15 records and no marker; counted in
the marker when one stands last; else the marker is appended with lost count 1 and the tick stamp of the event. -/
def enqueue (q : List EventRecord) (e : EventRecord) : List EventRecord :=
  match q.getLast? with
  | some ⟨.eventsLost n, t⟩ => q.dropLast ++ [⟨.eventsLost (min (n + 1) Config.lostLimit), t⟩]
  | _ => if q.length < Config.eventLimit then q ++ [e] else q ++ [⟨.eventsLost 1, e.tick⟩]

/-- A copy of an event that carries a session number reaches the event queue of `p`: dropped when the session of `p` is
CLOSED or has another number (R149). -/
def State.deliver (s : State) (p : Port) (number : SessionNumber) (e : EventRecord) : State :=
  if (s.session p).isOpen ∧ (s.session p).number = number then s.setEvents p (enqueue (s.events p) e) else s

/-- A claim posts an event record to `p`; the copy carries the session number of `p` as the claim finds it, and reaches
the queue as part of the claim (R144, R148, R149; DEDUCED, log entry 13). -/
def State.postRecord (s : State) (e : EventRecord) (p : Port) : State := s.deliver p (s.session p).number e

/-- A claim posts an event to `p`, stamped with the tick counter (R77, R144). -/
def State.post (s : State) (p : Port) (e : Event) : State := s.postRecord ⟨e, s.tick⟩ p

/-- One copy of an event record for each recipient (R144). -/
def State.postEach (s : State) (ps : List Port) (e : EventRecord) : State := ps.foldl (·.postRecord e) s

/-! ### Responses (R183) -/

/-- A record of port `p` changed. -/
def State.updPort (s : State) (p : Port) (f : PortRecord → PortRecord) : State := s.setPort p (f (s.port p))

/-- A session record changed. -/
def State.updSession (s : State) (p : Port) (f : Session → Session) : State := s.setSession p (f (s.session p))

/-- One reservation becomes a queued response at the tail; without a reservation no response is formed (R183;
DEDUCED, log entry 11). -/
def PortRecord.respond (r : PortRecord) (resp : Response) : PortRecord :=
  if r.reservations = 0 then r
  else { r with reservations := r.reservations - 1, responses := r.responses ++ [resp] }

/-- A response is formed for a request of port `p` (R183). -/
def State.respond (s : State) (p : Port) (resp : Response) : State := s.updPort p (·.respond resp)

/-- A status code with its payload: what a block answers to a request (R192). -/
structure Reply where
  status  : Status
  payload : List Byte
  deriving DecidableEq, Repr

/-- A reply that carries no payload (R192). -/
def Reply.plain (st : Status) : Reply := { status := st, payload := [] }

/-- OK with a payload. -/
def Reply.okay (payload : List Byte) : Reply := { status := .ok, payload := payload }

/-- A reply is formed into the response to the request or job with this tag. -/
def State.reply (s : State) (p : Port) (tag : Byte) (r : Reply) : State :=
  s.respond p { tag := tag, status := r.status, payload := r.payload }

/-! ### Monitors (R132 to R137) -/

/-- The recipients of THRESHOLD: the monitor's owner and, under NOTIFY_READERS, the accumulator's readers, each port once
(R135). -/
def Monitor.recipients (m : Monitor) (r : Option Accumulator) : List Port :=
  allPorts.filter fun q => m.owner == q || (m.config.notifyReaders && r.any fun r => (r.reader q).isSome)

/-- An ARMED monitor judges the value `v` (R133 to R135). -/
def State.judgeMonitor (s : State) (i : MonIx) (m : Monitor) (v : Int) : State :=
  let region := m.config.regionAfter m.region v
  let s' := s.setMonitor i (some { m with region := region })
  if m.config.reports m.region region then
    s'.postEach (m.recipients (s.acc m.acc)) ⟨.threshold i m.acc region (clamp64 v), s.tick⟩
  else s'

/-- The value that a monitor's source takes of the values a claim hands over: the live value always, the value of the
closed-window record at a close (R132). -/
def Source.value (live : Wide) (closed : Option Wide) : Source → Option Wide
  | .live => some live
  | .closed => closed

/-- One monitor meets the values handed over for `a`: evaluated when it is ARMED, names `a` and its source takes one
(R132). -/
def State.evaluateOne (a : AccIx) (live : Wide) (closed : Option Wide) (s : State) (i : MonIx) : State :=
  match s.monitor i with
  | some m =>
    if m.armed ∧ m.acc = a then
      match m.config.source.value live closed with
      | some v => s.judgeMonitor i m v.toInt
      | none => s
    else s
  | none => s

/-- The accumulator table hands values for `a` to the monitor table; the monitors take them in ascending order of index
(R17, R20, R132). -/
def State.evaluate (s : State) (a : AccIx) (live : Wide) (closed : Option Wide) : State :=
  allMonitors.foldl (State.evaluateOne a live closed) s

/-- One monitor meets a detachment: when it is ARMED, names `a` and its owner is among `who`, it becomes DETACHED and
MONITOR_DETACHED is posted to its owner (R136, R137). -/
def State.detachOne (a : AccIx) (who : Port → Bool) (reason : DetachReason) (s : State) (i : MonIx) : State :=
  match s.monitor i with
  | some m =>
    if m.armed ∧ m.acc = a ∧ who m.owner then
      (s.setMonitor i (some { m with armed := false })).post m.owner (.monitorDetached i a reason)
    else s
  | none => s

/-- The monitors of the ports `who` on `a` are detached in ascending order of index (R46, R136, R137). -/
def State.detach (s : State) (a : AccIx) (who : Port → Bool) (reason : DetachReason) : State :=
  allMonitors.foldl (State.detachOne a who reason) s

/-- The loss of access of R46: when `q` now has no access to `a`, its ARMED monitors there are detached. -/
def State.loseAccess (s : State) (a : AccIx) (q : Port) : State :=
  match s.acc a with
  | some r => if r.access q then s else s.detach a (· == q) .accessLost
  | none => s

/-! ### The close of a window (R18 to R21, R101) -/

/-- The closed-window record formed from a record as the close is taken (R18). -/
def Accumulator.closing (r : Accumulator) (cause : Cause) (tick : Word32) : ClosedRecord :=
  { sequence := r.openSequence, value := r.live, count := r.count, saturated := r.saturated,
    cause := cause, tick := tick }

/-- A closed-window record appended to a ring (R101): dropped at once under depth 0; in a ring that holds its depth the
oldest records make room. -/
def ringAppend (depth : Nat) (ring : List ClosedRecord) (r : ClosedRecord) : List ClosedRecord :=
  if depth = 0 then [] else if ring.length < depth then ring ++ [r] else ring.drop (ring.length + 1 - depth) ++ [r]

/-- The record after a close (R19). -/
def Accumulator.closed (r : Accumulator) (cause : Cause) (tick : Word32) : Accumulator :=
  { r with
    live := match r.policies.closeAction with
      | .clear => 0
      | .carry => r.live
    count := 0
    saturated := false
    openSequence := r.openSequence + 1
    ring := ringAppend r.depth r.ring (r.closing cause tick) }

/-- The cause of a closed-window record is MANUAL. -/
def Cause.isManual : Cause → Bool
  | .scheduled .. => false
  | .manual => true

/-- A close of `a`, whose record is `r`: the record is appended and changed, WINDOW_CLOSED posted to the readers with
notify-on-close, and the values handed to the monitors (R18 to R20). -/
def State.closeWindow (s : State) (a : AccIx) (r : Accumulator) (cause : Cause) (tick : Word32) : State :=
  let r' := r.closed cause tick
  ((s.setAcc a (some r')).postEach r.notified ⟨.windowClosed a r.openSequence cause.isManual, tick⟩).evaluate a
    r'.live (some r.live)

/-! ### Release (R9, R25, R112, R136) -/

/-- The release of `a`, whose record is `r`, by the request of `releaser` or at the
end of its session: the offer is withdrawn, ACC_GONE posted, the
monitors detached, the ring discarded and its depth returned to the pool, and the record becomes FREE; the close claims
held for it are discarded (R90). -/
def State.release (s : State) (a : AccIx) (r : Accumulator) (releaser : Port) (reason : GoneReason) : State :=
  let s := match r.offer with
    | some o => s.post o.port (.offerWithdrawn a)
    | none => s
  let s := s.postEach (r.sharers.filter (· != releaser)) ⟨.accGone a reason, s.tick⟩
  let s := s.detach a (fun _ => true) .released
  ((s.setPool (s.pool + r.depth)).setAcc a none).setClaims a []

/-! ### The end of a session (R23 to R25, R39, R47, R95, R141, R164) -/

/-- The ending port's own record `a` (R24, R25): orphaned under KEEP, released under DROP. -/
def State.disposeOwned (s : State) (a : AccIx) (r : Accumulator) (p : Port) : State :=
  match r.policies.orphanPolicy with
  | .drop => s.release a r p .ownerEnded
  | .keep =>
    let s := s.setAcc a (some { r with owner := none, offer := none })
    let s := match r.offer with
      | some o => s.post o.port (.offerWithdrawn a)
      | none => s
    s.postEach (r.sharers.filter (· != p)) ⟨.accOrphaned a, s.tick⟩

/-- The standing of the ending port `p` removed from a record: contributor, reader entry and an offer that names it
(R47). -/
def Accumulator.withoutPort (r : Accumulator) (p : Port) : Accumulator :=
  { (r.setContributor p false).setReader p none with
    offer := if r.offer.any (·.port == p) then none else r.offer }

/-- The ending port's standing removed from `a`; OFFER_ENDED is posted to the owner of an offer that named it (R39,
R47). -/
def State.removeStanding (s : State) (a : AccIx) (p : Port) : State :=
  match s.acc a with
  | some r =>
    let s' := s.setAcc a (some (r.withoutPort p))
    match r.owner with
    | some o => if r.offer.any (·.port == p) then s'.post o (.offerEnded a p) else s'
    | none => s'
  | none => s

/-- The end of the session of `p` at one accumulator record: first the effects on a record `p` owns, then the removal of
its standing (R23, R47). -/
def State.endAtAcc (p : Port) (s : State) (a : AccIx) : State :=
  let s := match s.acc a with
    | some r => if r.ownedBy p then s.disposeOwned a r p else s
    | none => s
  s.removeStanding a p

/-- A monitor of the ending port becomes FREE (R141). -/
def State.freeMonitorOf (p : Port) (s : State) (i : MonIx) : State :=
  match s.monitor i with
  | some m => if m.owner = p then s.setMonitor i none else s
  | none => s

/-- A group of the ending port loses its owner (R95). -/
def State.disownGroup (p : Port) (s : State) (g : GroupIx) : State :=
  if (s.group g).owner = some p then s.setGroup g { s.group g with owner := none } else s

/-- The session record after the end (R164): CLOSED, the number kept, the cause set, the three hand-overs to come. -/
def Session.ended (r : Session) (cause : EndCause) (response : Option Response) : Session :=
  { r with lease := none, lastEnd := cause, tickOwed := false,
           atEngine := true, atEvents := true, atPort := true, closeResponse := response }

/-- The end of the session of port `p`, as one claim (R164): the session record; the decoder gives back a request that its
block has not taken (R187); the monitors of `p` freed; every accumulator record in ascending order; the groups of `p`. -/
def State.endSession (s : State) (p : Port) (cause : EndCause) (response : Option Response) : State :=
  let s := s.updSession p (·.ended cause response)
  let s := s.updPort p fun r => { r with holding := false }
  let s := allMonitors.foldl (State.freeMonitorOf p) s
  let s := allAccs.foldl (State.endAtAcc p) s
  allGroups.foldl (State.disownGroup p) s

/-! ### Ticks in progress (log entry 4) -/

/-- The window clock has taken its tick at every group: no boundary is due. -/
def State.clockReady (s : State) : Bool := allGroups.all fun g => !(s.group g).boundaryDue

/-! ### The decoder (R181, R182) -/

/-- The head request leaves the request queue and the decoder is free (R181). -/
def PortRecord.popHead (r : PortRecord) : PortRecord := { r with requests := r.requests.tail, holding := false }

/-- The head request is answered by the decoder with a status code and no payload (R181, R182). -/
def State.refuseHead (s : State) (p : Port) (tag : Byte) (st : Status) : State :=
  (s.updPort p (·.popHead)).reply p tag (.plain st)

/-- The session test of R182, step 2, which the decoder makes when it takes the request and not again while it holds a
request passed on (R156, R181). -/
def State.sessionRefuses (s : State) (p : Port) (k : Kind) : Bool :=
  !(s.port p).holding && !(s.session p).isOpen && k != .openSession

/-- The decoder of port `p` serves the head request when it is of kind `k`: the checks of R182 in their order, then the
block that owns the request takes it, or, while the block cannot take it, the decoder holds it (R181; DEDUCED, log
entry 8). -/
def State.serve {α : Type} (s : State) (p : Port) (k : Kind) (operands : List Byte → Except Status α)
    (ready : State → α → Bool) (take : State → Byte → α → State) : State :=
  match (s.port p).requests with
  | [] => s
  | f :: _ =>
    if f.kind ≠ k.code then s
    else if s.sessionRefuses p k then s.refuseHead p f.tag .noSession
    else match operands f.payload with
      | .error st => s.refuseHead p f.tag st
      | .ok x =>
        if ready s x then take (s.updPort p (·.popHead)) f.tag x
        else s.updPort p fun r => { r with holding := true }

/-- A block that can always take a request. -/
def always {α : Type} (_ : State) (_ : α) : Bool := true

/-- A request whose block answers it at once: the block's effect and its reply. -/
def State.serveReply {α : Type} (s : State) (p : Port) (k : Kind) (operands : List Byte → Except Status α)
    (ready : State → α → Bool) (take : State → α → State × Reply) : State :=
  s.serve p k operands ready fun s tag x => (take s x).1.reply p tag (take s x).2

end Sys2Proof.Machine
end

