-- ==== Sys2Proof/Machine/Accumulators.lean ====
section
/-! DEFINITION. The meanings of ACC_CREATE, ACC_CONFIGURE, ACC_RELEASE and ACC_INFO (R5 to R9, R11). -/

namespace Sys2Proof.Machine

/-- A record created from FREE (Table 1-1, R6). -/
def Accumulator.created (p : Port) (policies : Policies) (depth : Nat) : Accumulator :=
  { owner := some p, policies := policies, live := 0, count := 0, saturated := false, openSequence := 1
    contributors := Vector.replicate 4 false, readers := Vector.replicate 4 none, offer := none
    depth := depth, ring := [] }

/-- The FREE record with the lowest index (R6). -/
def State.lowestFree (s : State) : Option AccIx := allAccs.find? fun a => (s.acc a).isNone

/-- A request for the record `a`, FREE, judged against the pool and taken (R5, R6, R98). -/
def State.createAt (p : Port) (s : State) (a : AccIx) (x : CreateArgs) : State × Reply :=
  if s.pool < x.depth then (s, .plain .noHistorySpace)
  else ((s.setPool (s.pool - x.depth)).setAcc a (some (.created p x.policies x.depth)), .okay [byte a.val])

/-- ACC_CREATE at the table (R5, R6). -/
def State.accCreate (p : Port) (s : State) (x : CreateArgs) : State × Reply :=
  match x.target with
  | some a => if (s.acc a).isSome then (s, .plain .inUse) else s.createAt p a x
  | none =>
    match s.lowestFree with
    | some a => s.createAt p a x
    | none => (s, .plain .noAccumulator)

/-- ACC_CREATE (R5, R6). -/
def execAccCreate (p : Port) (s : State) : Host.Outcome State Fault Refusal :=
  .next (s.serveReply p .accCreate createOperands always (State.accCreate p))

/-- ACC_CONFIGURE at the table (R7, R8). -/
def State.accConfigure (p : Port) (s : State) (x : AccIx × Policies) : State × Reply :=
  match s.acc x.1 with
  | none => (s, .plain .gone)
  | some r =>
    if !r.ownedBy p then (s, .plain .notOwner)
    else if x.2.mode ≠ r.policies.mode ∧ r.count ≠ 0 then (s, .plain .notEmpty)
    else (s.setAcc x.1 (some { r with policies := x.2 }), .okay [])

/-- ACC_CONFIGURE (R7, R8). -/
def execAccConfigure (p : Port) (s : State) : Host.Outcome State Fault Refusal :=
  .next (s.serveReply p .accConfigure configureOperands always (State.accConfigure p))

/-- ACC_RELEASE at the table (R9). -/
def State.accRelease (p : Port) (s : State) (a : AccIx) : State × Reply :=
  match s.acc a with
  | none => (s, .plain .gone)
  | some r => if !r.ownedBy p then (s, .plain .notOwner) else (s.release a r p .released, .okay [])

/-- ACC_RELEASE (R9). -/
def execAccRelease (p : Port) (s : State) : Host.Outcome State Fault Refusal :=
  .next (s.serveReply p .accRelease accOperand always (State.accRelease p))

/-- ACC_INFO at the table (R11). -/
def State.accInfo (s : State) (a : AccIx) : State × Reply := (s, .okay (infoPayload (s.acc a)))

/-- ACC_INFO (R11). -/
def execAccInfo (p : Port) (s : State) : Host.Outcome State Fault Refusal :=
  .next (s.serveReply p .accInfo accOperand always State.accInfo)

end Sys2Proof.Machine
end

