-- ==== Sys2Proof/Machine/Clock.lean ====
section
/-! DEFINITION. The meanings of time: the tick, the lease that runs out, the boundary, its notice and the close claims
(R76, R77, R86, R88 to R90, R160). A tick is taken in steps: TICK itself, then a LEASE_EXPIRY for each session timer and
a BOUNDARY for each group that it brings to 0 (log entry 4). -/

namespace Sys2Proof.Machine

/-- A tick at a group (R86): a RUNNING group counts down by 1; a countdown that the tick brings to 0 makes the group's
boundary due. -/
def Group.onTick (r : Group) : Group :=
  match r.countdown with
  | none => r
  | some c => if 1 < c then { r with countdown := some (c - 1) } else { r with boundaryDue := true }

/-- A tick at a session timer (R160): lease remaining decreases by 1; the tick that would bring it to 0 is owed. -/
def Session.onTick (r : Session) : Session :=
  match r.lease with
  | none => r
  | some l =>
    if 1 < l.remaining then { r with lease := some { l with remaining := l.remaining - 1 } }
    else { r with tickOwed := true }

/-- The next tick may be taken: RESETn is high, and the last tick, its boundaries' notices and their close claims have all
been taken (R76, R90). -/
def State.tickReady (s : State) : Bool :=
  !s.resetLow && s.clockReady && allGroups.all (fun g => (s.notice g).isNone)
    && allAccs.all (fun a => (s.claims a).isEmpty) && allPorts.all (fun p => !(s.session p).tickOwed)

/-- TICK: the 128th REFCLK period ends (log entry 12); the tick counter increases by 1, then the groups and the session timers take the
tick (R76, R77, R86, R160). -/
def execTick (s : State) : Host.Outcome State Fault Refusal :=
  .next (if s.tickReady then
      let s := (s.setRefclk 0).setTick (s.tick + 1)
      let s := allGroups.foldl (fun s g => s.setGroup g (s.group g).onTick) s
      allPorts.foldl (fun s p => s.setSession p (s.session p).onTick) s
    else s)

/-- LEASE_EXPIRY: the session timer of port `p` takes the tick owed to it: the session ends with cause EXPIRY, or, when a
refresh was taken first, lease remaining decreases by 1 (R160). -/
def execLeaseExpiry (p : Port) (s : State) : Host.Outcome State Fault Refusal :=
  .next (if (s.session p).tickOwed then
      match (s.session p).lease with
      | none => s.updSession p fun r => { r with tickOwed := false }
      | some l =>
        if 1 < l.remaining then
          s.updSession p fun r => { r with lease := some { l with remaining := l.remaining - 1 }, tickOwed := false }
        else s.endSession p .expiry none
    else s)

/-- BOUNDARY: the countdown of group `g` reaches 0: the boundary count increases by 1, the countdown is reloaded with the
period, and the boundary is handed to the accumulator table (R86). -/
def execBoundary (g : GroupIx) (s : State) : Host.Outcome State Fault Refusal :=
  .next (if (s.group g).boundaryDue then
      if (s.group g).running then
        (s.setGroup g { s.group g with boundaryCount := (s.group g).boundaryCount + 1
                                       countdown := some (s.group g).period
                                       boundaryDue := false }).setNotice g
          (some { group := g, count := (s.group g).boundaryCount + 1, tick := s.tick })
      else s.setGroup g { s.group g with boundaryDue := false }
    else s)

/-- A boundary forms a close claim for a record that is not FREE and is bound to its group (R88). -/
def State.formClaim (b : Boundary) (s : State) (a : AccIx) : State :=
  match s.acc a with
  | some r => if r.policies.binding = .group b.group then s.setClaims a (s.claims a ++ [b]) else s
  | none => s

/-- BOUNDARY_NOTICE: the accumulator table takes the boundary that `g` has handed over and forms the close claims (R88). -/
def execBoundaryNotice (g : GroupIx) (s : State) : Host.Outcome State Fault Refusal :=
  .next (match s.notice g with
    | some b => allAccs.foldl (State.formClaim b) (s.setNotice g none)
    | none => s)

/-- CLOSE_CLAIM: the table takes the first close claim held for `a`: ignored when the record is FREE or its binding does
not name the claim's group, skipped at the last sequence, else a close with cause SCHEDULED (R10, R89). -/
def execCloseClaim (a : AccIx) (s : State) : Host.Outcome State Fault Refusal :=
  .next (match s.claims a with
    | [] => s
    | b :: rest =>
      let s := s.setClaims a rest
      match s.acc a with
      | none => s
      | some r =>
        if r.policies.binding ≠ .group b.group then s
        else if r.openSequence = Config.lastSequence then s
        else s.closeWindow a r (.scheduled b.group b.count) b.tick)

end Sys2Proof.Machine
end

