-- ==== Sys2Proof/Machine/Engine.lean ====
section
/-! DEFINITION. The meanings of the job requests, of the arbiter's grant, of a job's completion and of JOB_CANCEL (R49 to
R71). -/

namespace Sys2Proof.Machine

/-! ### The arbiter (R53, R54) -/

/-- The first port in rotation after the grant pointer whose job queue holds a job, the pointer's own port last (R53). -/
def State.nextGrant (s : State) : Option Port :=
  [s.grantPointer + 1, s.grantPointer + 2, s.grantPointer + 3, s.grantPointer].find? fun p => !(s.jobs p).isEmpty

/-- The grant: when the engine is IDLE, the head job of the next port in rotation leaves its queue and runs, and the grant
pointer becomes its port (R53). -/
def State.makeGrant (s : State) : State :=
  match s.running, s.nextGrant with
  | none, some p => ((s.setJobs p (s.jobs p).tail).setRunning (s.jobs p).head?).setPointer p
  | _, _ => s

/-- GRANT (R53). -/
def execGrant (s : State) : Host.Outcome State Fault Refusal := .next s.makeGrant

/-! ### Job requests (R49 to R52) -/

/-- Job queue `p` has a place (R52). -/
def queueTakes (p : Port) (s : State) (_ : Work) : Bool := decide ((s.jobs p).length < Config.jobQueueLimit)

/-- No job waits and none runs. -/
def State.engineFree (s : State) : Bool := s.running.isNone && allPorts.all fun p => (s.jobs p).isEmpty

/-- A job appended at the tail of job queue `p` (R49); with the engine IDLE and every queue empty it is granted at once
(R53). -/
def State.appendJob (p : Port) (s : State) (tag : Byte) (w : Work) : State :=
  let s' := s.setJobs p (s.jobs p ++
    [{ tag := tag, port := p, session := (s.session p).number, work := w, mark := .none }])
  if s.engineFree then s'.makeGrant else s'

/-- ACCUMULATE: the decoder checks the request and appends its job, waiting while the queue is full (R49, R50, R52). -/
def execAccumulate (p : Port) (s : State) : Host.Outcome State Fault Refusal :=
  .next (s.serve p .accumulate accumulateOperands (queueTakes p) (State.appendJob p))

/-- LOAD (R49, R50, R57). -/
def execLoad (p : Port) (s : State) : Host.Outcome State Fault Refusal :=
  .next (s.serve p .load loadOperands (queueTakes p) (State.appendJob p))

/-- CLOSE_WINDOW (R49, R50, R58). -/
def execCloseWindow (p : Port) (s : State) : Host.Outcome State Fault Refusal :=
  .next (s.serve p .closeWindow closeWindowOperands (queueTakes p) (State.appendJob p))

/-- FENCE (R49, R50, R59). -/
def execFence (p : Port) (s : State) : Host.Outcome State Fault Refusal :=
  .next (s.serve p .fence fenceOperands (queueTakes p) (State.appendJob p))

/-! ### Completion (R60 to R67) -/

/-- The session of the job's port is OPEN with the session number the job carries (R61). -/
def State.isCurrent (s : State) (j : Job) : Bool :=
  (s.session j.port).isOpen && (s.session j.port).number == j.session

/-- The port has the standing that the kind of job requires (R65). -/
def Accumulator.standing (r : Accumulator) (p : Port) : Work → Bool
  | .accumulate .. => r.ownedBy p || r.isContributor p
  | .load .. => r.ownedBy p
  | .close _ => r.ownedBy p
  | .fence => true

/-- What the tests of Table 3-2 decide. -/
inductive Verdict where
  | noTrace
  | answer (r : Reply)
  | apply (a : AccIx) (r : Accumulator)
  deriving DecidableEq, Repr

/-- The target window against the open sequence (R66): the refusal, if any. -/
def targetRefusal (target : Option Sequence) (openSequence : Sequence) : Option Reply :=
  match target with
  | none => none
  | some w =>
    if w < openSequence then some { status := .windowPassed, payload := wordBytes 6 openSequence }
    else if openSequence < w then some { status := .windowNotOpen, payload := wordBytes 6 openSequence }
    else none

/-- The ordered tests at completion, steps 1 to 6 of Table 3-2 (R61 to R66). -/
def State.judgeJob (s : State) (j : Job) : Verdict :=
  if j.mark = .discard ∨ s.isCurrent j = false then .noTrace
  else if j.mark = .cancel then .answer (.plain .cancelled)
  else match j.work.acc? with
    | none => .answer (.okay [])
    | some a =>
      match s.acc a with
      | none => .answer (.plain .gone)
      | some r =>
        if r.standing j.port j.work then
          match targetRefusal j.work.target? r.openSequence with
          | some reply => .answer reply
          | none => .apply a r
        else .answer (.plain .notAuthorised)

/-- The response of an applied ACCUMULATE or LOAD (R17, R67). -/
def Accumulator.landed (r : Accumulator) : Reply := .okay (resultPayload r.openSequence r.count r.saturated)

/-- A job applied to the record `r` of `a` (R67): the change, its hand-overs, and the response. -/
def State.applyJob (s : State) (a : AccIx) (r : Accumulator) : Work → State × Reply
  | .accumulate _ pairs negate _ =>
    let r' := r.applyPartial (partialOf r.policies.mode negate pairs) pairs.length
    ((s.setAcc a (some r')).evaluate a r'.live none, r'.landed)
  | .load _ v _ =>
    let r' := r.applyLoad v
    ((s.setAcc a (some r')).evaluate a r'.live none, r'.landed)
  | .close _ =>
    if r.openSequence = Config.lastSequence then (s, .plain .sequenceLimit)
    else (s.closeWindow a r .manual s.tick, .okay (resultPayload r.openSequence r.count r.saturated))
  | .fence => (s, .okay [])

/-- The completion of job `j` at the accumulator table (R60). -/
def State.complete (s : State) (j : Job) : State :=
  match s.judgeJob j with
  | .noTrace => s
  | .answer r => s.reply j.port j.tag r
  | .apply a r => (s.applyJob a r j.work).1.reply j.port j.tag (s.applyJob a r j.work).2

/-- JOB_COMPLETION: the running job completes, and the engine becomes IDLE (R55, R60). -/
def execJobCompletion (s : State) : Host.Outcome State Fault Refusal :=
  .next (match s.running with
    | some j => (s.setRunning none).complete j
    | none => s)

/-! ### JOB_CANCEL (R70, R71) -/

/-- A job of port `p` that carries the tag and the port's current session number; a job marked DISCARD is not considered
(R70, R74; DEDUCED, log entry 10). -/
def State.qualifies (s : State) (p : Port) (tag : Byte) (j : Job) : Bool :=
  j.port == p && j.tag == tag && j.session == (s.session p).number && j.mark != .discard

/-- The oldest qualifying job of job queue `p` removed; its response CANCELLED is queued in place of its reservation
(R70). -/
def State.cancelQueued (p : Port) (s : State) (tag : Byte) : State × Reply :=
  match (s.jobs p).find? (s.qualifies p tag) with
  | some j =>
    ((s.setJobs p ((s.jobs p).eraseP (s.qualifies p tag))).reply p j.tag (.plain .cancelled), .okay [])
  | none => (s, .plain .notFound)

/-- JOB_CANCEL at the engine: the running job first, then the oldest queued (R70). -/
def State.jobCancel (p : Port) (s : State) (tag : Byte) : State × Reply :=
  match s.running with
  | some j =>
    if s.qualifies p tag j then (s.setRunning (some { j with mark := .cancel }), .okay [])
    else s.cancelQueued p tag
  | none => s.cancelQueued p tag

/-- JOB_CANCEL (R70). -/
def execJobCancel (p : Port) (s : State) : Host.Outcome State Fault Refusal :=
  .next (s.serveReply p .jobCancel cancelOperands always (State.jobCancel p))

end Sys2Proof.Machine
end

