-- ==== Sys2Proof/Machine/Events.lean ====
section
/-! DEFINITION. The meaning of EVENT_FETCH (R150, R151). -/

namespace Sys2Proof.Machine

/-- EVENT_FETCH at the event queue of the requesting port: the oldest records, up to the maximum, are removed and returned
(R150). -/
def State.eventFetch (p : Port) (s : State) (maximum : Nat) : State × Reply :=
  (s.setEvents p ((s.events p).drop maximum),
    .okay (fetchPayload ((s.events p).take maximum) ((s.events p).drop maximum).length))

/-- EVENT_FETCH (R150). -/
def execEventFetch (p : Port) (s : State) : Host.Outcome State Fault Refusal :=
  .next (s.serveReply p .eventFetch fetchOperands always (State.eventFetch p))

end Sys2Proof.Machine
end

