-- ==== Sys2Proof/Machine/Framing.lean ====
section
/-! DEFINITION. The meanings of device reset, of the SPI transaction and of the frames that are not requests (R172 to
R180, R184, R188), and of a request of undefined kind (R182, step 1). -/

namespace Sys2Proof.Machine

/-! ### Device reset (R188) -/

/-- A port after device reset, its SELn at the level it has (R172). -/
def PortRecord.atReset (r : PortRecord) : PortRecord := { PortRecord.reset with selLow := r.selLow }

/-- Every block at its reset values, RESETn at `low`, SELn of each port at its level, the waiting commands kept (R3, R75,
R97, R115, R128, R154, R155, R172). -/
def State.atReset (s : State) (low : Bool) : State :=
  { State.reset with
    pending := s.pending
    resetLow := low
    ports := #v[(s.port 0).atReset, (s.port 1).atReset, (s.port 2).atReset, (s.port 3).atReset] }

/-- DEVICE_RESET: RESETn falls, or power-up (R188; log entry 3). -/
def execDeviceReset (s : State) : Host.Outcome State Fault Refusal := .next (s.atReset true)

/-- RESETN_RETURNS_HIGH: the REFCLK count towards the first tick begins (R76), and the ports may begin transactions once
SELn falls (R188). -/
def execResetnReturnsHigh (s : State) : Host.Outcome State Fault Refusal :=
  .next (if s.resetLow then (s.setResetLow false).setRefclk 0 else s)

/-! ### The transaction (R173 to R175, R179, R184) -/

/-- SELn falls on an IDLE port: SELECTED, no bytes received, the header formed, the head response copied (R173). -/
def PortRecord.begin (r : PortRecord) (header : Byte) : PortRecord :=
  { r with
    selLow := true
    framing := .selected
    received := 0
    kept := []
    header := header
    sdo := none
    delivery := r.responses.head?.map fun resp => { response := resp, shifted := 0, queued := true } }

/-- TRANSACTION_START: SELn of port `p` falls. While RESETn is low, or when SELn is low already, no transaction begins
(R173, R188). -/
def execTransactionStart (p : Port) (s : State) : Host.Outcome State Fault Refusal :=
  .next (if (s.port p).selLow then s
    else if s.resetLow then s.updPort p fun r => { r with selLow := true }
    else s.updPort p fun r => r.begin (s.header p))

/-- The byte shifted out next: the header, then the length and response frame of the delivery copy or a length of 0, then
0xFF (R174). -/
def PortRecord.outByte (r : PortRecord) : Byte :=
  if r.received = 0 then r.header
  else match r.delivery with
    | some d => d.response.frame.getD d.shifted 0xFF#8
    | none => if r.received = 1 then 0x00#8 else 0xFF#8

/-- The byte shifted next is the last CRC byte of a response that still stands at the head of the queue (R184). -/
def PortRecord.deliversNow (r : PortRecord) : Bool :=
  decide (r.received ≠ 0) && r.delivery.any fun d => d.queued && d.shifted + 1 == d.response.frame.length

/-- The delivery copy after one more byte of its response. -/
def Delivery.advance (d : Delivery) : Delivery :=
  if d.shifted + 1 < d.response.frame.length then { d with shifted := d.shifted + 1 }
  else { d with shifted := d.response.frame.length, queued := false }

/-- One complete byte on SCKn within a transaction: one byte out, one byte in (R174, R175); a complete header that showed
REFUSED clears it (R179); the last CRC byte removes the delivered response (R184). -/
def PortRecord.shiftByte (r : PortRecord) (sdi : Byte) : PortRecord :=
  { r with
    sdo := some r.outByte
    received := r.received + 1
    kept := if r.kept.length < Config.keptBytes then r.kept ++ [sdi] else r.kept
    refused := r.refused && !(decide (r.received = 0) && showsRefused r.header)
    responses := if r.deliversNow then r.responses.tail else r.responses
    delivery := if r.received = 0 then r.delivery else r.delivery.map Delivery.advance }

/-- BYTE_SHIFTED: a complete byte on port `p`. Outside a transaction it is not taken: with SELn high nothing is clocked
(R173), and with SELn held low through a device reset, when no transaction has begun (R188), no rule says what R174's SDOn
carries; DESIGN CHOICE, log entry 15: SDOn stays not driven and the byte changes nothing. -/
def execByteShifted (p : Port) (sdi : Byte) (s : State) : Host.Outcome State Fault Refusal :=
  .next (if (s.port p).framing = .selected then s.updPort p (·.shiftByte sdi) else s)

/-! ### Judging a frame (R175 to R180) -/

/-- What the bytes of a transaction are (R177). -/
inductive Judged where
  | nothing
  | dropped
  | null
  | resync
  | offered (f : Frame)
  deriving DecidableEq, Repr

/-- The judgement of the bytes received (R175, R177). -/
def judgeBytes (received : Nat) (kept : List Byte) : Judged :=
  if received = 0 then .nothing
  else match kept with
    | kind :: tag :: len :: rest =>
      if Config.maxPayload < len.toNat ∨ rest.length < len.toNat + 1 then .dropped
      else if (rest.drop len.toNat).head? ≠ some (crc8 (kind :: tag :: len :: rest.take len.toNat)) then .dropped
      else if kind = 0x00#8 ∧ len = 0x00#8 then .null
      else if kind = 0xFF#8 ∧ len = 0x00#8 then .resync
      else .offered { kind := kind, tag := tag, payload := rest.take len.toNat }
    | _ => .dropped

/-- The judgement of what port `p` has received. -/
def State.judged (s : State) (p : Port) : Judged := judgeBytes (s.port p).received (s.port p).kept

/-- SELn rises: IDLE, SDOn not driven, no delivery copy (R174, R177, R184). -/
def State.deselect (s : State) (p : Port) : State :=
  s.updPort p fun r => { r with selLow := false, framing := .idle, sdo := none, delivery := none }

/-- A refusal with its cause (R179). -/
def State.refuseFrame (s : State) (p : Port) (c : RefusalCause) : State :=
  s.updPort p fun r => { r with refused := true, cause := c }

/-- A lease refresh: in OPEN lease remaining becomes the lease length; in CLOSED nothing (R159). -/
def State.refresh (s : State) (p : Port) : State :=
  s.updSession p fun r => { r with lease := r.lease.map fun l => { l with remaining := l.length } }

/-- The acceptance test passes: fewer than 4 frames, and fewer than 8 reservations and queued responses (R178). -/
def PortRecord.hasRoom (r : PortRecord) : Bool :=
  decide (r.requests.length < Config.requestQueueLimit)
    && decide (r.reservations + r.responses.length < Config.responseLimit)

/-- A frame offered to the acceptance test: appended with a reservation, or dropped with cause QUEUE_FULL (R178). -/
def State.offerFrame (s : State) (p : Port) (f : Frame) : State :=
  if (s.port p).hasRoom then
    s.updPort p fun r => { r with requests := r.requests ++ [f], reservations := r.reservations + 1 }
  else s.refuseFrame p .queueFull

/-- The port's request and response queues emptied, its decoder freed, every reservation dropped; a response being
shifted out no longer stands in the queue (R180, R184). A CLOSE response still to be handed to the port has lost its
reservation and is not formed (R163, R183; log entry 7). -/
def State.flushPort (s : State) (p : Port) : State :=
  (s.updPort p fun r =>
    { r with requests := [], holding := false, reservations := 0, responses := []
             delivery := r.delivery.map fun d => { d with queued := false } }).updSession p
    fun r => { r with closeResponse := none }

/-- A RESYNC frame acted on: in OPEN the session ends with cause RESYNC, in CLOSED the port is flushed (R163, R180). -/
def State.actResync (s : State) (p : Port) : State :=
  if (s.session p).isOpen then s.endSession p .resync none else s.flushPort p

/-- TRANSACTION_END: SELn of port `p` rises, and a transaction's bytes are judged as one frame (R177). -/
def execTransactionEnd (p : Port) (s : State) : Host.Outcome State Fault Refusal :=
  .next (if (s.port p).framing = .selected then
      match s.judged p with
      | .nothing => s.deselect p
      | .dropped => (s.deselect p).refuseFrame p .frame
      | .null => (s.deselect p).refresh p
      | .resync => (s.deselect p).actResync p
      | .offered f => ((s.deselect p).refresh p).offerFrame p f
    else s.updPort p fun r => { r with selLow := false })

/-- NULL: SELn of port `p` rises on a transaction whose bytes are a NULL frame, which is accepted and discarded at once
and refreshes the lease (R159, R177). Where the bytes are not a NULL frame this step does not occur. -/
def execNull (p : Port) (s : State) : Host.Outcome State Fault Refusal :=
  .next (if (s.port p).framing = .selected ∧ s.judged p = .null then (s.deselect p).refresh p else s)

/-- RESYNC: SELn of port `p` rises on a transaction whose bytes are a RESYNC frame, which is acted on at once (R163,
R177, R180). Where the bytes are not a RESYNC frame this step does not occur. -/
def execResync (p : Port) (s : State) : Host.Outcome State Fault Refusal :=
  .next (if (s.port p).framing = .selected ∧ s.judged p = .resync then (s.deselect p).actResync p else s)

/-! ### A request of undefined kind (R182) -/

/-- The answer to a frame whose kind is not a request's: BAD_LENGTH for kind 0x00 or 0xFF with a payload, else BAD_KIND
(R182, step 1). -/
def badKindStatus (f : Frame) : Status :=
  if (f.kind = 0x00#8 ∨ f.kind = 0xFF#8) ∧ f.payload ≠ [] then .badLength else .badKind

/-- BAD_KIND: the decoder of port `p` answers a head request of undefined kind, in either session state (R156, R182). -/
def execBadKind (p : Port) (s : State) : Host.Outcome State Fault Refusal :=
  .next (match (s.port p).requests with
    | [] => s
    | f :: _ => if knownKind f.kind then s else s.refuseHead p f.tag (badKindStatus f))

end Sys2Proof.Machine
end

