-- ==== Sys2Proof/Machine/Groups.lean ====
section
/-! DEFINITION. The meanings of the group requests (R79 to R85). The window clock takes a group request when it has taken
its tick at every group (log entry 4). -/

namespace Sys2Proof.Machine

/-- The window clock can take a group request. -/
def clockTakes {α : Type} (s : State) (_ : α) : Bool := s.clockReady

/-- GROUP_CLAIM at the window clock (R80). -/
def State.groupClaim (p : Port) (s : State) (g : GroupIx) : State × Reply :=
  if (s.group g).owner.isSome then (s, .plain .alreadyOwned)
  else (s.setGroup g { s.group g with owner := some p }, .okay [])

/-- GROUP_CLAIM (R80). -/
def execGroupClaim (p : Port) (s : State) : Host.Outcome State Fault Refusal :=
  .next (s.serveReply p .groupClaim groupOperand clockTakes (State.groupClaim p))

/-- GROUP_SET at the window clock (R81). -/
def State.groupSet (p : Port) (s : State) (x : GroupIx × Nat) : State × Reply :=
  if (s.group x.1).owner ≠ some p then (s, .plain .notOwner)
  else if (s.group x.1).running then (s, .plain .busy)
  else (s.setGroup x.1 { s.group x.1 with period := x.2 }, .okay [])

/-- GROUP_SET (R81). -/
def execGroupSet (p : Port) (s : State) : Host.Outcome State Fault Refusal :=
  .next (s.serveReply p .groupSet groupSetOperands clockTakes (State.groupSet p))

/-- GROUP_START at the window clock (R82). -/
def State.groupStart (p : Port) (s : State) (x : GroupIx × Option Nat) : State × Reply :=
  let r := s.group x.1
  if r.owner ≠ some p then (s, .plain .notOwner)
  else if r.running then (s, .plain .busy)
  else if r.period < x.2.getD 0 then (s, .plain .badField)
  else (s.setGroup x.1 { r with countdown := some (x.2.getD r.period) },
        .okay (beBytes 2 (x.2.getD r.period) ++ wordBytes 4 s.tick))

/-- GROUP_START (R82). -/
def execGroupStart (p : Port) (s : State) : Host.Outcome State Fault Refusal :=
  .next (s.serveReply p .groupStart groupStartOperands clockTakes (State.groupStart p))

/-- GROUP_STOP at the window clock (R83): the countdown it held is reported and dropped. -/
def State.groupStop (p : Port) (s : State) (g : GroupIx) : State × Reply :=
  if (s.group g).owner ≠ some p then (s, .plain .notOwner)
  else match (s.group g).countdown with
    | some c => (s.setGroup g { s.group g with countdown := none }, .okay (beBytes 2 c))
    | none => (s, .okay [])

/-- GROUP_STOP (R83). -/
def execGroupStop (p : Port) (s : State) : Host.Outcome State Fault Refusal :=
  .next (s.serveReply p .groupStop groupOperand clockTakes (State.groupStop p))

/-- GROUP_RELEASE at the window clock (R84). -/
def State.groupRelease (p : Port) (s : State) (g : GroupIx) : State × Reply :=
  if (s.group g).owner ≠ some p then (s, .plain .notOwner)
  else (s.setGroup g { s.group g with owner := none }, .okay [])

/-- GROUP_RELEASE (R84). -/
def execGroupRelease (p : Port) (s : State) : Host.Outcome State Fault Refusal :=
  .next (s.serveReply p .groupRelease groupOperand clockTakes (State.groupRelease p))

/-- GROUP_INFO at the window clock (R85). -/
def State.groupInfo (s : State) (g : GroupIx) : State × Reply := (s, .okay (groupPayload (s.group g) s.tick))

/-- GROUP_INFO (R85). -/
def execGroupInfo (p : Port) (s : State) : Host.Outcome State Fault Refusal :=
  .next (s.serveReply p .groupInfo groupOperand clockTakes State.groupInfo)

end Sys2Proof.Machine
end

