-- ==== Sys2Proof/Machine/History.lean ====
section
/-! DEFINITION. The meanings of READ_LIVE, READ_HISTORY, READ_RECORD and HISTORY_RESIZE (R104, R105, R107 to R110, R120,
R122, R123, R125, R126). -/

namespace Sys2Proof.Machine

/-- The format applied to a value-bearing request (R120): the request's, else the requester's default, else RAW. -/
def Accumulator.formatFor (r : Accumulator) (p : Port) (requested : Option ReadFormat) : ReadFormat :=
  match requested, r.reader p with
  | some f, _ => f
  | none, some e => e.format
  | none, none => .rawFormat

/-- READ_LIVE at the table (R122, R123). -/
def State.readLive (p : Port) (s : State) (x : AccIx × Option ReadFormat) : State × Reply :=
  match s.acc x.1 with
  | none => (s, .plain .gone)
  | some r =>
    if r.access p then (s, .okay (livePayload (r.formatFor p x.2) r)) else (s, .plain .notAuthorised)

/-- READ_LIVE (R122, R123). -/
def execReadLive (p : Port) (s : State) : Host.Outcome State Fault Refusal :=
  .next (s.serveReply p .readLive readLiveOperands always (State.readLive p))

/-- The floor of the overrun test: the oldest held sequence, or the open sequence when none is held (R104). -/
def Accumulator.floor (r : Accumulator) : Sequence := r.oldestHeld.getD r.openSequence

/-- The missed count, present when the cursor is below the floor (R104). -/
def Accumulator.missed (r : Accumulator) (cursor : Sequence) : Option Sequence :=
  if cursor < r.floor then some (r.floor - cursor) else none

/-- The cursor after the overrun test (R104). -/
def Accumulator.settled (r : Accumulator) (cursor : Sequence) : Sequence := if cursor < r.floor then r.floor else cursor

/-- The records returned from a cursor upward, at most `maximum` of them, oldest first (R105). -/
def Accumulator.recordsFrom (r : Accumulator) (cursor : Sequence) (maximum : Nat) : List ClosedRecord :=
  (r.ring.dropWhile fun c => decide (c.sequence < cursor)).take
    (min maximum (r.openSequence.toNat - cursor.toNat))

/-- READ_HISTORY at the table and the history store (R104, R105, R125). -/
def State.readHistory (p : Port) (s : State) (x : HistoryArgs) : State × Reply :=
  match s.acc x.acc with
  | none => (s, .plain .gone)
  | some r =>
    match r.reader p with
    | none => (s, .plain .notSubscribed)
    | some e =>
      let records := r.recordsFrom (r.settled e.cursor) x.maximum
      let cursor := r.settled e.cursor + BitVec.ofNat 48 records.length
      (s.setAcc x.acc (some (r.setReader p (some { e with cursor := cursor }))),
        .okay (historyPayload (r.formatFor p x.format) (r.missed e.cursor) cursor r.openSequence records))

/-- READ_HISTORY (R104, R105). -/
def execReadHistory (p : Port) (s : State) : Host.Outcome State Fault Refusal :=
  .next (s.serveReply p .readHistory readHistoryOperands always (State.readHistory p))

/-- READ_RECORD at the table and the history store (R107, R126). -/
def State.readRecord (p : Port) (s : State) (x : AccIx × Sequence) : State × Reply :=
  match s.acc x.1 with
  | none => (s, .plain .gone)
  | some r =>
    if r.access p then
      match r.ring.find? fun c => c.sequence == x.2 with
      | some c => (s, .okay (c.bytes (r.formatFor p none)))
      | none => (s, .plain .notHeld)
    else (s, .plain .notAuthorised)

/-- READ_RECORD (R107, R126). -/
def execReadRecord (p : Port) (s : State) : Host.Outcome State Fault Refusal :=
  .next (s.serveReply p .readRecord readRecordOperands always (State.readRecord p))

/-- The record with its ring shrunk to a depth: the oldest records dropped until the ring fits (R110). -/
def Accumulator.shrunk (r : Accumulator) (depth : Nat) : Accumulator :=
  { r with depth := depth, ring := r.ring.drop (r.ring.length - depth) }

/-- HISTORY_RESIZE at the table and the history store (R108 to R110). -/
def State.historyResize (p : Port) (s : State) (x : AccIx × Nat) : State × Reply :=
  match s.acc x.1 with
  | none => (s, .plain .gone)
  | some r =>
    if !r.ownedBy p then (s, .plain .notOwner)
    else if r.depth < x.2 then
      if s.pool < x.2 - r.depth then (s, .plain .noHistorySpace)
      else
        let r' := { r with depth := x.2 }
        ((s.setPool (s.pool - (x.2 - r.depth))).setAcc x.1 (some r'),
          .okay (resizePayload r' (s.pool - (x.2 - r.depth))))
    else if x.2 < r.depth then
      let r' := r.shrunk x.2
      ((s.setPool (s.pool + (r.depth - x.2))).setAcc x.1 (some r'),
        .okay (resizePayload r' (s.pool + (r.depth - x.2))))
    else (s, .okay (resizePayload r s.pool))

/-- HISTORY_RESIZE (R108 to R110). -/
def execHistoryResize (p : Port) (s : State) : Host.Outcome State Fault Refusal :=
  .next (s.serveReply p .historyResize resizeOperands always (State.historyResize p))

end Sys2Proof.Machine
end

