-- ==== Sys2Proof/Machine/Monitors.lean ====
section
/-! DEFINITION. The meanings of MON_CREATE, MON_ATTACH, MON_FREE and MON_INFO (R130, R131, R138, R140, R142). -/

namespace Sys2Proof.Machine

/-- The FREE monitor record with the lowest index (R131). -/
def State.freeMonitor (s : State) : Option MonIx := allMonitors.find? fun m => (s.monitor m).isNone

/-- MON_CREATE at the accumulator table and the monitor table (R130, R131). -/
def State.monCreate (p : Port) (s : State) (x : AccIx × MonitorConfig) : State × Reply :=
  match s.acc x.1 with
  | none => (s, .plain .gone)
  | some r =>
    if r.access p then
      match s.freeMonitor with
      | none => (s, .plain .noMonitor)
      | some m =>
        (s.setMonitor m (some { armed := true, owner := p, acc := x.1, config := x.2, region := .unknown }),
          .okay [byte m.val])
    else (s, .plain .notAuthorised)

/-- MON_CREATE (R130, R131). -/
def execMonCreate (p : Port) (s : State) : Host.Outcome State Fault Refusal :=
  .next (s.serveReply p .monCreate monCreateOperands always (State.monCreate p))

/-- MON_ATTACH at the accumulator table and the monitor table (R138). -/
def State.monAttach (p : Port) (s : State) (x : MonIx × AccIx) : State × Reply :=
  match s.acc x.2 with
  | none => (s, .plain .gone)
  | some r =>
    match s.monitor x.1 with
    | none => (s, .plain .badState)
    | some m =>
      if m.owner ≠ p then (s, .plain .notOwner)
      else if m.armed then (s, .plain .badState)
      else if r.access p then
        (s.setMonitor x.1 (some { m with armed := true, acc := x.2, region := .unknown }), .okay [])
      else (s, .plain .notAuthorised)

/-- MON_ATTACH (R138). -/
def execMonAttach (p : Port) (s : State) : Host.Outcome State Fault Refusal :=
  .next (s.serveReply p .monAttach monAttachOperands always (State.monAttach p))

/-- MON_FREE at the monitor table (R140). -/
def State.monFree (p : Port) (s : State) (m : MonIx) : State × Reply :=
  match s.monitor m with
  | none => (s, .plain .badState)
  | some r => if r.owner ≠ p then (s, .plain .notOwner) else (s.setMonitor m none, .okay [])

/-- MON_FREE (R140). -/
def execMonFree (p : Port) (s : State) : Host.Outcome State Fault Refusal :=
  .next (s.serveReply p .monFree monOperand always (State.monFree p))

/-- MON_INFO at the monitor table (R142). -/
def State.monInfo (s : State) (m : MonIx) : State × Reply := (s, .okay (monitorPayload (s.monitor m)))

/-- MON_INFO (R142). -/
def execMonInfo (p : Port) (s : State) : Host.Outcome State Fault Refusal :=
  .next (s.serveReply p .monInfo monOperand always State.monInfo)

end Sys2Proof.Machine
end

