-- ==== Sys2Proof/Machine/Sessions.lean ====
section
/-! DEFINITION. The meanings of the session requests and of the three hand-overs of a session's end (R72, R153, R157,
R158, R162, R164 to R168, R170). -/

namespace Sys2Proof.Machine

/-! ### OPEN, CLOSE, PORT_STATUS -/

/-- The session timer takes an OPEN once no end is in progress (R157, R165). -/
def openTakes (p : Port) (s : State) (_ : Nat) : Bool := !(s.session p).ending

/-- The session record after an OPEN taken in CLOSED (R158). -/
def Session.opened (r : Session) (length : Nat) : Session :=
  { r with number := r.number + 1, lease := some { length := length, remaining := length } }

/-- OPEN at the session timer: ALREADY_OPEN in OPEN; in CLOSED a new session, and the port's EXPIRED flag clears (R157,
R158). -/
def State.takeOpen (p : Port) (s : State) (length : Nat) : State × Reply :=
  if (s.session p).isOpen then (s, .plain .alreadyOpen)
  else ((s.updSession p (·.opened length)).updPort p fun r => { r with expired := false },
        .okay (openPayload ((s.session p).opened length)))

/-- OPEN (R157, R158). -/
def execOpenSession (p : Port) (s : State) : Host.Outcome State Fault Refusal :=
  .next (s.serveReply p .openSession openOperands (openTakes p) (State.takeOpen p))

/-- CLOSE at the session timer: the session ends with cause CLOSE, and its response is handed to the port with the end
(R162, R168). -/
def State.takeClose (p : Port) (s : State) (tag : Byte) (_ : Unit) : State :=
  s.endSession p .close (some { tag := tag, status := .ok, payload := wordBytes 2 (s.session p).number })

/-- CLOSE (R162). -/
def execCloseSession (p : Port) (s : State) : Host.Outcome State Fault Refusal :=
  .next (s.serve p .closeSession emptyOperands always (State.takeClose p))

/-- The session timer takes a PORT_STATUS before or after a tick, not within one (R170, log entry 4). -/
def timerTakes (p : Port) (s : State) (_ : Unit) : Bool := !(s.session p).tickOwed

/-- PORT_STATUS at the session timer (R170). -/
def State.takeStatus (p : Port) (s : State) (_ : Unit) : State × Reply :=
  match (s.session p).lease with
  | some l => (s, .okay (statusPayload (s.session p) l s.tick))
  | none => (s, .plain .noSession)

/-- PORT_STATUS (R170). -/
def execPortStatus (p : Port) (s : State) : Host.Outcome State Fault Refusal :=
  .next (s.serveReply p .portStatus emptyOperands (timerTakes p) (State.takeStatus p))

/-! ### The hand-overs of an end -/

/-- ENGINE_SESSION_END: the engine empties job queue `p` and marks a running job of `p` DISCARD (R72). -/
def execEngineSessionEnd (p : Port) (s : State) : Host.Outcome State Fault Refusal :=
  .next (if (s.session p).atEngine then
      ((s.updSession p fun r => { r with atEngine := false }).setJobs p []).setRunning
        (s.running.map fun j => if j.port = p then { j with mark := .discard } else j)
    else s)

/-- EVENT_QUEUE_SESSION_END: the event queue of `p` discards every record, the marker included (R153). -/
def execEventQueueSessionEnd (p : Port) (s : State) : Host.Outcome State Fault Refusal :=
  .next (if (s.session p).atEvents then
      (s.updSession p fun r => { r with atEvents := false }).setEvents p []
    else s)

/-- The port after it has taken the end of its session: queues empty, reservations dropped, any CLOSE response queued,
EXPIRED set on expiry (R166 to R168). -/
def PortRecord.ended (r : PortRecord) (cause : EndCause) (response : Option Response) : PortRecord :=
  { r with
    requests := []
    holding := false
    reservations := 0
    responses := response.toList
    delivery := r.delivery.map fun d => { d with queued := false }
    expired := r.expired || decide (cause = .expiry) }

/-- PORT_SESSION_END: port `p` takes the end of its session (R167, R168). -/
def execPortSessionEnd (p : Port) (s : State) : Host.Outcome State Fault Refusal :=
  .next (if (s.session p).atPort then
      (s.updPort p (·.ended (s.session p).lastEnd (s.session p).closeResponse)).updSession p
        fun r => { r with atPort := false, closeResponse := none }
    else s)

end Sys2Proof.Machine
end

