-- ==== Sys2Proof/Machine/Sharing.lean ====
section
/-! DEFINITION. The meanings of ACC_GRANT, ACC_OFFER, ACC_ACCEPT, ACC_CLAIM, SUBSCRIBE and UNSUBSCRIBE (R28 to R46). -/

namespace Sys2Proof.Machine

/-- ACC_GRANT with action add that passes its checks (R29, R30). -/
def State.grantAdd (s : State) (a : AccIx) (r : Accumulator) (q : Port) : State :=
  if r.isContributor q then s
  else (s.setAcc a (some (r.setContributor q true))).post q (.rightsChanged a true)

/-- ACC_GRANT with action remove that passes its checks (R31). -/
def State.grantRemove (s : State) (a : AccIx) (r : Accumulator) (q : Port) : State :=
  ((s.setAcc a (some (r.setContributor q false))).post q (.rightsChanged a false)).loseAccess a q

/-- ACC_GRANT at the table (R29 to R31). -/
def State.accGrant (p : Port) (s : State) (x : GrantArgs) : State × Reply :=
  match s.acc x.acc with
  | none => (s, .plain .gone)
  | some r =>
    if !r.ownedBy p then (s, .plain .notOwner)
    else if r.ownedBy x.target then (s, .plain .badField)
    else if !(s.session x.target).isOpen then (s, .plain .badField)
    else if x.remove then
      if !r.isContributor x.target then (s, .plain .notFound)
      else (s.grantRemove x.acc r x.target, .okay [])
    else (s.grantAdd x.acc r x.target, .okay [])

/-- ACC_GRANT (R29 to R31). -/
def execAccGrant (p : Port) (s : State) : Host.Outcome State Fault Refusal :=
  .next (s.serveReply p .accGrant grantOperands always (State.accGrant p))

/-- OFFER_WITHDRAWN posted to the port that a present offer named (R34). -/
def State.withdrawOffer (s : State) (a : AccIx) (r : Accumulator) : State :=
  match r.offer with
  | some o => s.post o.port (.offerWithdrawn a)
  | none => s

/-- ACC_OFFER that passes its checks (R34). -/
def State.setOffer (p : Port) (s : State) (x : OfferArgs) (r : Accumulator) : State :=
  match x.target with
  | some q =>
    ((s.setAcc x.acc (some { r with offer := some { port := q, keep := x.keep } })).withdrawOffer x.acc r).post q
      (.offer x.acc p x.keep)
  | none => (s.setAcc x.acc (some { r with offer := none })).withdrawOffer x.acc r

/-- ACC_OFFER at the table (R33, R34). -/
def State.accOffer (p : Port) (s : State) (x : OfferArgs) : State × Reply :=
  match s.acc x.acc with
  | none => (s, .plain .gone)
  | some r =>
    if !r.ownedBy p then (s, .plain .notOwner)
    else if x.target.any (r.ownedBy ·) then (s, .plain .badField)
    else if x.target.any (fun q => !(s.session q).isOpen) then (s, .plain .badField)
    else (s.setOffer p x r, .okay [])

/-- ACC_OFFER (R33, R34). -/
def execAccOffer (p : Port) (s : State) : Host.Outcome State Fault Refusal :=
  .next (s.serveReply p .accOffer offerOperands always (State.accOffer p))

/-- The record after `p` accepts the offer `o` of the previous owner `q` (R36, steps 1 to 4). -/
def Accumulator.accepted (r : Accumulator) (p q : Port) (o : Offer) : Accumulator :=
  { r with
    owner := some p
    contributors := if o.keep then withEntry (withEntry r.contributors p false) q true
      else withEntry r.contributors p false
    offer := none }

/-- The transfer of ownership of `a` from `q` to `p` (R36). -/
def State.transfer (s : State) (a : AccIx) (r : Accumulator) (p q : Port) (o : Offer) : State :=
  let r' := r.accepted p q o
  let heard := allPorts.filter fun x => x != p && (r'.isContributor x || (r'.reader x).isSome || x == q)
  ((s.setAcc a (some r')).postEach heard ⟨.accClaimed a p, s.tick⟩).loseAccess a q

/-- ACC_ACCEPT at the table (R35, R36). -/
def State.accAccept (p : Port) (s : State) (a : AccIx) : State × Reply :=
  match s.acc a with
  | none => (s, .plain .gone)
  | some r =>
    match r.owner, r.offer with
    | some q, some o => if o.port = p then (s.transfer a r p q o, .okay []) else (s, .plain .noOffer)
    | _, _ => (s, .plain .noOffer)

/-- ACC_ACCEPT (R35, R36). -/
def execAccAccept (p : Port) (s : State) : Host.Outcome State Fault Refusal :=
  .next (s.serveReply p .accAccept accOperand always (State.accAccept p))

/-- ACC_CLAIM at the table (R40, R41). -/
def State.accClaim (p : Port) (s : State) (a : AccIx) : State × Reply :=
  match s.acc a with
  | none => (s, .plain .gone)
  | some r =>
    if r.owner.isSome then (s, .plain .alreadyOwned)
    else if !r.isContributor p && (r.reader p).isNone && r.policies.readerPolicy == .privateAccess then
      (s, .plain .notAuthorised)
    else
      let r' := { (r.setContributor p false) with owner := some p }
      ((s.setAcc a (some r')).postEach (r'.sharers.filter (· != p)) ⟨.accClaimed a p, s.tick⟩, .okay [])

/-- ACC_CLAIM (R40, R41). -/
def execAccClaim (p : Port) (s : State) : Host.Outcome State Fault Refusal :=
  .next (s.serveReply p .accClaim accOperand always (State.accClaim p))

/-- The cursor that SUBSCRIBE sets (R44). -/
def Accumulator.startCursor (r : Accumulator) (next : Bool) : Sequence :=
  if next then r.openSequence else r.oldestHeld.getD r.openSequence

/-- SUBSCRIBE at the table (R43, R44). -/
def State.subscribe (p : Port) (s : State) (x : SubscribeArgs) : State × Reply :=
  match s.acc x.acc with
  | none => (s, .plain .gone)
  | some r =>
    if !r.ownedBy p && !r.isContributor p && r.policies.readerPolicy == .privateAccess then
      (s, .plain .notAuthorised)
    else
      (s.setAcc x.acc (some (r.setReader p
          (some { cursor := r.startCursor x.next, notify := x.notify, format := x.format }))),
        .okay (subscribePayload (r.startCursor x.next) r.openSequence))

/-- SUBSCRIBE (R43, R44). -/
def execSubscribe (p : Port) (s : State) : Host.Outcome State Fault Refusal :=
  .next (s.serveReply p .subscribe subscribeOperands always (State.subscribe p))

/-- UNSUBSCRIBE at the table (R45, R46). -/
def State.unsubscribe (p : Port) (s : State) (a : AccIx) : State × Reply :=
  match s.acc a with
  | none => (s, .plain .gone)
  | some r =>
    if (r.reader p).isNone then (s, .plain .notSubscribed)
    else ((s.setAcc a (some (r.setReader p none))).loseAccess a p, .okay [])

/-- UNSUBSCRIBE (R45, R46). -/
def execUnsubscribe (p : Port) (s : State) : Host.Outcome State Fault Refusal :=
  .next (s.serveReply p .unsubscribe accOperand always (State.unsubscribe p))

end Sys2Proof.Machine
end

