-- ==== Sys2Proof/Machine/Dispatch.lean ====
section
/-! DEFINITION. The dispatch: one arm per command, each a direct call of its meaning. -/

namespace Sys2Proof.Machine

def exec (i : Instr) (s : State) : Host.Outcome State Fault Refusal :=
  match i with
  | .deviceReset => Sys2Proof.Machine.execDeviceReset s
  | .tick => Sys2Proof.Machine.execTick s
  | .leaseExpiry p => Sys2Proof.Machine.execLeaseExpiry p s
  | .boundary g => Sys2Proof.Machine.execBoundary g s
  | .boundaryNotice g => Sys2Proof.Machine.execBoundaryNotice g s
  | .closeClaim a => Sys2Proof.Machine.execCloseClaim a s
  | .transactionStart p => Sys2Proof.Machine.execTransactionStart p s
  | .transactionEnd p => Sys2Proof.Machine.execTransactionEnd p s
  | .null p => Sys2Proof.Machine.execNull p s
  | .resync p => Sys2Proof.Machine.execResync p s
  | .badKind p => Sys2Proof.Machine.execBadKind p s
  | .openSession p => Sys2Proof.Machine.execOpenSession p s
  | .closeSession p => Sys2Proof.Machine.execCloseSession p s
  | .portStatus p => Sys2Proof.Machine.execPortStatus p s
  | .engineSessionEnd p => Sys2Proof.Machine.execEngineSessionEnd p s
  | .eventQueueSessionEnd p => Sys2Proof.Machine.execEventQueueSessionEnd p s
  | .portSessionEnd p => Sys2Proof.Machine.execPortSessionEnd p s
  | .accCreate p => Sys2Proof.Machine.execAccCreate p s
  | .accConfigure p => Sys2Proof.Machine.execAccConfigure p s
  | .accRelease p => Sys2Proof.Machine.execAccRelease p s
  | .accInfo p => Sys2Proof.Machine.execAccInfo p s
  | .accGrant p => Sys2Proof.Machine.execAccGrant p s
  | .accOffer p => Sys2Proof.Machine.execAccOffer p s
  | .accAccept p => Sys2Proof.Machine.execAccAccept p s
  | .accClaim p => Sys2Proof.Machine.execAccClaim p s
  | .subscribe p => Sys2Proof.Machine.execSubscribe p s
  | .unsubscribe p => Sys2Proof.Machine.execUnsubscribe p s
  | .accumulate p => Sys2Proof.Machine.execAccumulate p s
  | .load p => Sys2Proof.Machine.execLoad p s
  | .closeWindow p => Sys2Proof.Machine.execCloseWindow p s
  | .fence p => Sys2Proof.Machine.execFence p s
  | .grant => Sys2Proof.Machine.execGrant s
  | .jobCompletion => Sys2Proof.Machine.execJobCompletion s
  | .jobCancel p => Sys2Proof.Machine.execJobCancel p s
  | .readLive p => Sys2Proof.Machine.execReadLive p s
  | .readHistory p => Sys2Proof.Machine.execReadHistory p s
  | .readRecord p => Sys2Proof.Machine.execReadRecord p s
  | .historyResize p => Sys2Proof.Machine.execHistoryResize p s
  | .groupClaim p => Sys2Proof.Machine.execGroupClaim p s
  | .groupSet p => Sys2Proof.Machine.execGroupSet p s
  | .groupStart p => Sys2Proof.Machine.execGroupStart p s
  | .groupStop p => Sys2Proof.Machine.execGroupStop p s
  | .groupRelease p => Sys2Proof.Machine.execGroupRelease p s
  | .groupInfo p => Sys2Proof.Machine.execGroupInfo p s
  | .monCreate p => Sys2Proof.Machine.execMonCreate p s
  | .monAttach p => Sys2Proof.Machine.execMonAttach p s
  | .monFree p => Sys2Proof.Machine.execMonFree p s
  | .monInfo p => Sys2Proof.Machine.execMonInfo p s
  | .eventFetch p => Sys2Proof.Machine.execEventFetch p s
  | .byteShifted p sdi => Sys2Proof.Machine.execByteShifted p sdi s
  | .resetnReturnsHigh => Sys2Proof.Machine.execResetnReturnsHigh s

end Sys2Proof.Machine
end

