-- ==== Sys2Proof/Safety.lean ====
section
/-! DEFINITION. What a sound state of the JM-432 is: the properties the rules state of every state the part reaches, one
definition for each. They rule out states no run reaches, and each is claimed to hold at reset and to be kept by every
step. After them stand the terms in which claims about single commands are stated: written out from the rules as whole
records and tables, and not with the operations of the meanings. -/

namespace Sys2Proof.Machine

/-! ### Ports (R175, R178, R183) -/

/-- A port's limits: at most 4 frames, at most 8 reservations and queued responses, at most 140 bytes kept. -/
def PortRecord.Fits (r : PortRecord) : Prop :=
  r.requests.length ≤ Config.requestQueueLimit ∧
  r.reservations + r.responses.length ≤ Config.responseLimit ∧
  r.kept.length ≤ Config.keptBytes

/-- Every port keeps its limits (R175, R183). -/
def State.PortsFit (s : State) : Prop := ∀ p, (s.port p).Fits

/-! ### Event queues (R145, R147) -/

/-- The record is the EVENTS_LOST marker. -/
def EventRecord.isMarker (e : EventRecord) : Bool :=
  match e.event with
  | .eventsLost _ => true
  | .windowClosed .. | .threshold .. | .monitorDetached .. | .accGone .. | .accOrphaned .. | .accClaimed ..
  | .offer .. | .offerWithdrawn .. | .offerEnded .. | .rightsChanged .. => false

/-- The lost count of a marker is 1 to 65535; other records have none (R143). -/
def EventRecord.CountFits (e : EventRecord) : Prop :=
  match e.event with
  | .eventsLost n => 1 ≤ n ∧ n ≤ Config.lostLimit
  | .windowClosed .. | .threshold .. | .monitorDetached .. | .accGone .. | .accOrphaned .. | .accClaimed ..
  | .offer .. | .offerWithdrawn .. | .offerEnded .. | .rightsChanged .. => True

/-- An event queue's shape: at most 15 records that are not the marker, and the marker, when present, last (R145). -/
def QueueFits (q : List EventRecord) : Prop :=
  (q.filter fun e => !e.isMarker).length ≤ Config.eventLimit ∧
  (∀ e ∈ q.dropLast, e.isMarker = false) ∧
  (∀ e ∈ q, e.CountFits)

/-- Every event queue keeps its shape (R145). -/
def State.EventsFit (s : State) : Prop := ∀ p, QueueFits (s.events p)

/-! ### The pool (R98) -/

/-- The slots an accumulator's ring holds, none for a FREE record. -/
def State.depthOf (s : State) (a : AccIx) : Nat :=
  match s.acc a with
  | some r => r.depth
  | none => 0

/-- The history depths of all accumulators, added to the free slots of the pool, total 256, and no depth exceeds 32 (R98). -/
def State.PoolBalanced (s : State) : Prop :=
  (allAccs.map s.depthOf).sum + s.pool = Config.poolSlots ∧ ∀ a, s.depthOf a ≤ Config.maxDepth

/-! ### Rings and cursors (R100, R103) -/

/-- A record's history: the open sequence is at least 1, the ring holds at most its depth of records, their sequences are
consecutive and end one below the open sequence, and every cursor lies between 1 and the open sequence. -/
def Accumulator.HistoryFits (r : Accumulator) : Prop :=
  r.ring.length ≤ r.depth ∧
  r.ring.length < r.openSequence.toNat ∧
  r.ring.map (·.sequence.toNat) = List.range' (r.openSequence.toNat - r.ring.length) r.ring.length ∧
  ∀ p e, r.reader p = some e → 1 ≤ e.cursor.toNat ∧ e.cursor.toNat ≤ r.openSequence.toNat

/-- Every accumulator's history is sound (R100, R103). -/
def State.HistoriesFit (s : State) : Prop := ∀ a r, s.acc a = some r → r.HistoryFits

/-! ### Sessions (R155, R165, R166) -/

/-- A session record: lease length 16 to 8192 and lease remaining 1 to the length while OPEN, no end in progress while
OPEN, and a tick owed or a CLOSE response only where there is something to take it. -/
def Session.Fits (r : Session) : Prop :=
  (∀ l, r.lease = some l → Config.minLease ≤ l.length ∧ l.length ≤ Config.maxLease ∧
    1 ≤ l.remaining ∧ l.remaining ≤ l.length) ∧
  (r.isOpen = true → r.ending = false) ∧
  (r.tickOwed = true → r.isOpen = true) ∧
  (r.closeResponse.isSome = true → r.atPort = true)

/-- Every session record is sound, the EXPIRED flag is clear in OPEN (R166), and the decoder of a CLOSED port holds at
most an OPEN (R187). -/
def State.SessionsFit (s : State) : Prop :=
  ∀ p, (s.session p).Fits ∧ ((s.session p).isOpen = true → (s.port p).expired = false) ∧
    ((s.port p).holding = true → (s.session p).isOpen = true ∨
      (s.port p).requests.head?.any (fun f => f.kind == Kind.openSession.code) = true)

/-- A port whose session is CLOSED and whose end the engine and the event queue have taken has no job queued and no
record in its event queue (R158, R165). -/
def State.ClosedQueuesEmpty (s : State) : Prop :=
  ∀ p, (s.session p).isOpen = false →
    ((s.session p).atEngine = false → s.jobs p = []) ∧ ((s.session p).atEvents = false → s.events p = [])

/-! ### Standing (R1, R27, R33, R47) -/

/-- A record's standing: the owner's session is OPEN and the owner is no contributor; every contributor and reader has an
OPEN session; an offer stands only on an OWNED record and names another port, whose session is OPEN. -/
def State.StandingSound (s : State) : Prop :=
  ∀ a r, s.acc a = some r →
    (∀ p, r.owner = some p → (s.session p).isOpen = true ∧ r.isContributor p = false) ∧
    (∀ p, r.isContributor p = true → (s.session p).isOpen = true) ∧
    (∀ p, (r.reader p).isSome = true → (s.session p).isOpen = true) ∧
    (∀ o, r.offer = some o → (s.session o.port).isOpen = true ∧ ∃ p, r.owner = some p ∧ p ≠ o.port)

/-! ### Monitors (R46, R130, R141) -/

/-- A monitor's owner has an OPEN session, its bounds are defined, and while it is ARMED its accumulator is not FREE and
its owner has access to it. -/
def State.MonitorsSound (s : State) : Prop :=
  ∀ i m, s.monitor i = some m →
    (s.session m.owner).isOpen = true ∧
    boundsDefined m.config.low m.config.high m.config.hysteresis = true ∧
    (m.armed = true → ∃ r, s.acc m.acc = some r ∧ r.access m.owner = true)

/-! ### The window clock (R78, R86, R90, R95) -/

/-- A group's period is 1 to 65535 and its countdown, while RUNNING, 1 to the period; a boundary is due only at countdown
1; an owner's session is OPEN. -/
def State.GroupsSound (s : State) : Prop :=
  ∀ g, 1 ≤ (s.group g).period ∧ (s.group g).period ≤ 65535 ∧
    (∀ c, (s.group g).countdown = some c → 1 ≤ c ∧ c ≤ (s.group g).period) ∧
    ((s.group g).boundaryDue = true → (s.group g).countdown = some 1) ∧
    (∀ p, (s.group g).owner = some p → (s.session p).isOpen = true)

/-- A boundary that is due, handed over or claimed, counted per group and record: each group has at most one under way,
and a FREE record holds no claim (R90). -/
def State.BoundariesOnce (s : State) : Prop :=
  (∀ g, (s.group g).boundaryDue = true → s.notice g = none) ∧
  (∀ g b, s.notice g = some b → b.group = g) ∧
  (∀ g, (s.group g).boundaryDue = true ∨ (s.notice g).isSome = true →
    ∀ a, ∀ b ∈ s.claims a, b.group ≠ g) ∧
  (∀ a, ((s.claims a).map (·.group)).Nodup) ∧
  (∀ a, s.acc a = none → s.claims a = [])

/-! ### The engine (R51, R53) -/

/-- A job queue holds at most 4 jobs, all of its port and unmarked. -/
def State.JobsFit (s : State) : Prop :=
  ∀ p, (s.jobs p).length ≤ Config.jobQueueLimit ∧ ∀ j ∈ s.jobs p, j.port = p ∧ j.mark = .none

/-! ### RESETn (R188) -/

/-- While RESETn is low every block holds its reset values. -/
def State.HeldInReset (s : State) : Prop := s.resetLow = true → s = s.atReset true

/-- A sound state: every property above. -/
structure State.Sound (s : State) : Prop where
  portsFit : s.PortsFit
  eventsFit : s.EventsFit
  poolBalanced : s.PoolBalanced
  historiesFit : s.HistoriesFit
  sessionsFit : s.SessionsFit
  closedQueuesEmpty : s.ClosedQueuesEmpty
  standingSound : s.StandingSound
  monitorsSound : s.MonitorsSound
  groupsSound : s.GroupsSound
  boundariesOnce : s.BoundariesOnce
  jobsFit : s.JobsFit
  heldInReset : s.HeldInReset

/-! ### Reset values -/

/-- Every block holds the value the rules give it after device reset (R3, R75, R77, R78, R98, R128, R154, R155, R172); the
level of a port's SELn, RESETn and the waiting commands are no part of it. -/
def State.HasResetValues (s : State) : Prop :=
  s.tick = 0 ∧ s.refclk = 0 ∧ s.pool = 256 ∧ s.running = none ∧ s.grantPointer = 3 ∧
  (∀ a, s.acc a = none ∧ s.claims a = []) ∧
  (∀ m, s.monitor m = none) ∧
  (∀ g, s.notice g = none ∧
    s.group g = { period := 256, countdown := none, boundaryCount := 0, owner := none, boundaryDue := false }) ∧
  (∀ p, s.jobs p = [] ∧ s.events p = [] ∧
    s.session p = { number := 0, lease := none, lastEnd := .none, tickOwed := false,
                    atEngine := false, atEvents := false, atPort := false, closeResponse := none } ∧
    s.port p = { selLow := (s.port p).selLow, framing := .idle, received := 0, kept := [], header := 0, sdo := none,
                 requests := [], holding := false, reservations := 0, responses := [], delivery := none,
                 refused := false, cause := .none, expired := false })

/-! ### Requests -/

/-- The command that serves a request of this kind at a port. -/
def Kind.command (k : Kind) (p : Port) : Instr :=
  match k with
  | .openSession => .openSession p
  | .closeSession => .closeSession p
  | .portStatus => .portStatus p
  | .accCreate => .accCreate p
  | .accConfigure => .accConfigure p
  | .accRelease => .accRelease p
  | .accInfo => .accInfo p
  | .accGrant => .accGrant p
  | .accOffer => .accOffer p
  | .accAccept => .accAccept p
  | .accClaim => .accClaim p
  | .subscribe => .subscribe p
  | .unsubscribe => .unsubscribe p
  | .accumulate => .accumulate p
  | .load => .load p
  | .closeWindow => .closeWindow p
  | .fence => .fence p
  | .jobCancel => .jobCancel p
  | .readLive => .readLive p
  | .readHistory => .readHistory p
  | .readRecord => .readRecord p
  | .historyResize => .historyResize p
  | .groupClaim => .groupClaim p
  | .groupSet => .groupSet p
  | .groupStart => .groupStart p
  | .groupStop => .groupStop p
  | .groupRelease => .groupRelease p
  | .groupInfo => .groupInfo p
  | .monCreate => .monCreate p
  | .monAttach => .monAttach p
  | .monFree => .monFree p
  | .monInfo => .monInfo p
  | .eventFetch => .eventFetch p

/-- The frame `f` stands at the head of request queue `p` and is a request of kind `k`. -/
abbrev State.HeadIs (s : State) (p : Port) (k : Kind) (f : Frame) : Prop :=
  (s.port p).requests.head? = some f ∧ f.kind = k.code

/-- A request of kind `k` stands at the head of request queue `p`, whose session is OPEN. -/
abbrev State.Asks (s : State) (p : Port) (k : Kind) (f : Frame) : Prop :=
  s.HeadIs p k f ∧ (s.session p).isOpen = true

/-- The head request has left request queue `p`, and the decoder is free (R181; decoding and taking are one step, log
entry 8). -/
def State.popped (s : State) (p : Port) : State :=
  s.setPort p { s.port p with requests := (s.port p).requests.tail, holding := false }

/-- One reservation of port `p` has become a response at the tail of its response queue; with no reservation nothing is
formed (R183; DEDUCED, log entry 11). -/
def State.responded (s : State) (p : Port) (tag : Byte) (st : Status) (payload : List Byte) : State :=
  s.setPort p { s.port p with
    reservations := (s.port p).reservations - 1
    responses := (s.port p).responses ++
      if (s.port p).reservations = 0 then [] else [{ tag := tag, status := st, payload := payload }] }

/-- The head request `f` has left request queue `p` and its response is queued (log entries 8 and 11). -/
def State.answered (s : State) (p : Port) (f : Frame) (st : Status) (payload : List Byte) : State :=
  (s.popped p).responded p f.tag st payload

/-- The decoder of `p` holds its head request, which its block cannot take yet (R181; log entry 8). -/
def State.held (s : State) (p : Port) : State := s.setPort p { s.port p with holding := true }

/-- The payload lengths of a kind (Table 11-3); ACCUMULATE and LOAD by their control byte. -/
def Kind.lengths (k : Kind) (l : List Byte) : List Nat :=
  match k with
  | .closeSession | .portStatus | .fence => [0]
  | .accRelease | .accInfo | .accAccept | .accClaim | .unsubscribe | .closeWindow | .jobCancel | .groupClaim
  | .groupStop | .groupRelease | .groupInfo | .monFree | .monInfo | .eventFetch => [1]
  | .openSession | .historyResize | .monAttach => [2]
  | .accConfigure | .accGrant | .accOffer | .groupSet => [3]
  | .accCreate | .subscribe => [4]
  | .readLive | .groupStart => [1, 3]
  | .readHistory => [2, 4]
  | .readRecord => [7]
  | .monCreate => [22]
  | .accumulate => [2 + 8 * ((l.getD 1 0).toNat % 32) + if (l.getD 1 0).getLsbD 6 then 6 else 0]
  | .load => [10 + if (l.getD 1 0).getLsbD 6 then 6 else 0]

/-- Every field of a payload of the right length holds a value the tables of chapter 11 define (R191). -/
def Kind.fieldsDefined (k : Kind) (l : List Byte) : Bool :=
  let n (i : Nat) : Nat := (l.getD i 0).toNat
  let bit (i j : Nat) : Bool := (l.getD i 0).getLsbD j
  match k with
  | .closeSession | .portStatus | .fence | .jobCancel => true
  | .openSession => decide (16 ≤ 256 * n 0 + n 1 ∧ 256 * n 0 + n 1 ≤ 8192)
  | .accCreate => decide ((n 0 < 32 ∨ n 0 = 255) ∧ n 1 < 16 ∧ (n 2 < 4 ∨ n 2 = 15) ∧ n 3 ≤ 32)
  | .accConfigure => decide (n 0 < 32 ∧ n 1 < 16 ∧ (n 2 < 4 ∨ n 2 = 15))
  | .accRelease | .accInfo | .accAccept | .accClaim | .unsubscribe | .closeWindow | .readRecord => decide (n 0 < 32)
  | .accGrant => decide (n 0 < 32 ∧ n 1 < 4 ∧ n 2 < 2)
  | .accOffer => decide (n 0 < 32 ∧ (n 1 < 4 ∨ n 1 = 255) ∧ n 2 < 2)
  | .subscribe => decide (n 0 < 32 ∧ n 1 < 4 ∧ n 3 < 4)
  | .accumulate => decide (n 0 < 32) && !bit 1 5
  | .load => decide (n 0 < 32 ∧ n 1 % 64 = 0) && !bit 1 7
  | .readLive => decide (n 0 < 32 ∧ (l.length = 3 → n 2 < 4))
  | .readHistory => decide (n 0 < 32 ∧ 1 ≤ n 1 ∧ n 1 ≤ 4 ∧ (l.length = 4 → n 3 < 4))
  | .historyResize => decide (n 0 < 32 ∧ n 1 ≤ 32)
  | .groupClaim | .groupStop | .groupRelease | .groupInfo => decide (n 0 < 4)
  | .groupSet => decide (n 0 < 4 ∧ 1 ≤ 256 * n 1 + n 2)
  | .groupStart => decide (n 0 < 4 ∧ (l.length = 3 → 1 ≤ 256 * n 1 + n 2))
  | .monCreate =>
    let low := (BitVec.ofNat 64 (beNat ((l.drop 2).take 8))).toInt
    let high := (BitVec.ofNat 64 (beNat ((l.drop 10).take 8))).toInt
    decide (n 0 < 32 ∧ n 1 < 32 ∧ low ≤ high ∧ 2 * (beNat (l.drop 18) : Int) ≤ high - low)
  | .monAttach => decide (n 0 < 16 ∧ n 1 < 32)
  | .monFree | .monInfo => decide (n 0 < 16)
  | .eventFetch => decide (1 ≤ n 0 ∧ n 0 ≤ 8)

/-- What the decoder answers to a payload it does not accept: BAD_LENGTH and BAD_FIELD in the order of R182 steps 3 and 4
and R190, with the pair count of ACCUMULATE judged before its length. -/
def Kind.refusal (k : Kind) (l : List Byte) : Option Status :=
  if (k = .accumulate ∨ k = .load) ∧ l.length < 2 then some .badLength
  else if k = .accumulate ∧ ((l.getD 1 0).toNat % 32 = 0 ∨ 16 < (l.getD 1 0).toNat % 32) then some .badField
  else if l.length ∉ k.lengths l then some .badLength
  else if k.fieldsDefined l then none
  else some .badField

/-! ### Payloads as they are sent (Tables 11-1 to 11-11)

Each field is written out here from the tables: these are the terms in which the statements say what the decoder reads and
what a response holds. -/

/-- The weight `n` of a bit that is set, else 0. -/
def weight (b : Bool) (n : Nat) : Nat := if b then n else 0

/-- A port, 0xFF when it is absent (Table 11-1). -/
def sentPort : Option Port → Byte
  | some p => byte p.val
  | none => 0xFF

/-- A set of ports, bit n for Pn (Table 11-9). -/
def sentPorts (f : Port → Bool) : Byte := byte (weight (f 0) 1 + weight (f 1) 2 + weight (f 2) 4 + weight (f 3) 8)

/-- The policy pair (Tables 11-1 and 11-2). -/
def Policies.sent (x : Policies) : List Byte :=
  [byte (weight (x.mode == .unsigned) 1 + weight (x.closeAction == .carry) 2 + weight (x.readerPolicy == .publicAccess) 4
      + weight (x.orphanPolicy == .drop) 8),
   match x.binding with | .group g => byte g.val | .manual => 0x0F]

/-- The width code (Table 11-1). -/
def Width.sent : Width → Nat
  | .w16 => 0
  | .w32 => 1
  | .w64 => 2
  | .raw => 3

/-- A read format (Table 11-11). -/
def ReadFormat.sent (x : ReadFormat) : List Byte :=
  [byte (x.shift.val + weight (x.rounding == .nearest) 64 + weight (x.limit == .clamp) 128), byte x.width.sent]

/-- ACC_CREATE: accumulator or 0xFF, policy pair, history depth (Table 11-4). -/
def CreateArgs.sent (x : CreateArgs) : List Byte :=
  [match x.target with | some a => byte a.val | none => 0xFF] ++ x.policies.sent ++ [byte x.depth]

/-- ACC_GRANT: accumulator, target port, action (Table 11-4). -/
def GrantArgs.sent (x : GrantArgs) : List Byte := [byte x.acc.val, byte x.target.val, if x.remove then 0x01 else 0x00]

/-- ACC_OFFER: accumulator, target port or 0xFF, keep-contributor (Table 11-4). -/
def OfferArgs.sent (x : OfferArgs) : List Byte :=
  [byte x.acc.val, sentPort x.target, if x.keep then 0x01 else 0x00]

/-- SUBSCRIBE: accumulator, options, default read format (Table 11-4). -/
def SubscribeArgs.sent (x : SubscribeArgs) : List Byte :=
  [byte x.acc.val, byte (weight x.next 1 + weight x.notify 2)] ++ x.format.sent

/-- A target window, where one is carried (Table 11-5). -/
def sentTarget : Option Sequence → List Byte
  | some w => wordBytes 6 w
  | none => []

/-- The job requests: the accumulator, the control byte of ACCUMULATE and LOAD, and what follows it (Tables 11-5 and 11-6). -/
def Work.sent : Work → List Byte
  | .accumulate a pairs negate target =>
    [byte a.val, byte (pairs.length + weight target.isSome 64 + weight negate 128)]
      ++ (pairs.flatMap fun x => wordBytes 4 x.1 ++ wordBytes 4 x.2) ++ sentTarget target
  | .load a value target => [byte a.val, byte (weight target.isSome 64)] ++ wordBytes 8 value ++ sentTarget target
  | .close a => [byte a.val]
  | .fence => []

/-- A read format that a request may carry (Table 11-7). -/
def sentFormat : Option ReadFormat → List Byte
  | some x => x.sent
  | none => []

/-- READ_HISTORY: accumulator, maximum, optional read format (Table 11-7). -/
def HistoryArgs.sent (x : HistoryArgs) : List Byte := [byte x.acc.val, byte x.maximum] ++ sentFormat x.format

/-- The monitor configuration byte (Table 11-8). -/
def MonitorConfig.sentByte (c : MonitorConfig) : Byte :=
  byte (weight (c.source == .closed) 1 + weight c.toInside 2 + weight c.toAbove 4 + weight c.toBelow 8
    + weight c.notifyReaders 16)

/-- The bounds and the hysteresis of a monitor (Tables 11-7 and 11-9). -/
def MonitorConfig.sentBounds (c : MonitorConfig) : List Byte :=
  wordBytes 8 c.low ++ wordBytes 8 c.high ++ wordBytes 4 c.hysteresis

/-- The last end cause (Table 11-1). -/
def EndCause.sent : EndCause → Byte
  | .none => 0x00
  | .close => 0x01
  | .expiry => 0x02
  | .resync => 0x03

/-- The region (Table 11-1). -/
def Region.sent : Region → Byte
  | .unknown => 0x00
  | .inside => 0x01
  | .above => 0x02
  | .below => 0x03

/-- ACC_INFO of a record in use, 26 bytes (Table 11-9). Bit 3 of the info flags is `keep`: the offer's keep-contributor flag,
to which no rule gives a form without an offer (log entry 16). -/
def Accumulator.sent (r : Accumulator) (keep : Bool) : List Byte :=
  [if r.owner = none then 0x02 else 0x01, sentPort r.owner] ++ r.policies.sent ++ wordBytes 6 r.openSequence
    ++ wordBytes 4 r.count
    ++ [byte (weight r.saturated 1 + weight (!r.ring.isEmpty) 2 + weight r.offer.isSome 4 + weight keep 8),
        byte r.depth, byte r.ring.length]
    ++ (match r.ring with | c :: _ => wordBytes 6 c.sequence | [] => beBytes 6 0)
    ++ [sentPorts r.isContributor, sentPorts fun p => (r.reader p).isSome, sentPort (r.offer.map (·.port))]

/-- MON_INFO of a monitor in use, 25 bytes (Table 11-9). -/
def Monitor.sent (m : Monitor) : List Byte :=
  [if m.armed then 0x01 else 0x02, byte m.owner.val, byte m.acc.val, m.config.sentByte, m.region.sent]
    ++ m.config.sentBounds

/-- The presentation byte of a value under a format: width code and CLAMPED (R193). -/
def ReadFormat.sentPresentation (x : ReadFormat) (v : Wide) : Byte := byte (x.width.sent + weight (x.clamped v) 128)

/-- A closed-window record under a format (R193, Table 11-13). -/
def ClosedRecord.sent (x : ReadFormat) (r : ClosedRecord) : List Byte :=
  let caused : Nat × Word32 := match r.cause with | .scheduled g n => (16 * g.val, n) | .manual => (2, 0)
  wordBytes 6 r.sequence ++ [byte (weight r.saturated 1 + caused.1), x.sentPresentation r.value] ++ wordBytes 4 r.count
    ++ wordBytes 4 caused.2 ++ wordBytes 4 r.tick ++ presentedBytes x r.value

/-- An event record, 16 bytes: kind code, object, accumulator, detail, argument and tick stamp (R194, Tables 11-14 and
11-15). -/
def EventRecord.sent (e : EventRecord) : List Byte :=
  (match e.event with
    | .windowClosed a q byManual => [0x01, byte a.val, 0xFF, if byManual then 0x01 else 0x00] ++ beBytes 8 q.toNat
    | .threshold m a r v => [0x02, byte m.val, byte a.val, r.sent] ++ beBytes 8 v.toNat
    | .monitorDetached m a reason =>
      [0x03, byte m.val, byte a.val, if reason = .released then 0x00 else 0x01] ++ beBytes 8 0
    | .accGone a reason => [0x04, byte a.val, 0xFF, if reason = .released then 0x00 else 0x01] ++ beBytes 8 0
    | .accOrphaned a => [0x05, byte a.val, 0xFF, 0x00] ++ beBytes 8 0
    | .accClaimed a p => [0x06, byte a.val, 0xFF, byte p.val] ++ beBytes 8 0
    | .offer a p keep => [0x07, byte a.val, 0xFF, byte (p.val + weight keep 128)] ++ beBytes 8 0
    | .offerWithdrawn a => [0x08, byte a.val, 0xFF, 0x00] ++ beBytes 8 0
    | .offerEnded a p => [0x09, byte a.val, 0xFF, byte p.val] ++ beBytes 8 0
    | .rightsChanged a granted => [0x0A, byte a.val, 0xFF, if granted then 0x00 else 0x01] ++ beBytes 8 0
    | .eventsLost n => [0x0B, 0xFF, 0xFF, 0x00] ++ beBytes 8 n) ++ wordBytes 4 e.tick

/-! ### Events -/

/-- Each port's event queue after the posts `es q`, in their order; a port whose session is CLOSED stores nothing
(R146, R148, R149). -/
def State.posted (s : State) (es : Port → List EventRecord) : State :=
  { s with eventQueues := Vector.ofFn fun q =>
      if (s.session q).isOpen then (es q).foldl enqueue (s.events q) else s.events q }

/-- The event `e` once for each port that `who` names. -/
def toEach (who : Port → Bool) (e : EventRecord) (q : Port) : List EventRecord := if who q then [e] else []

/-! ### Monitors -/

/-- The state with these monitor records and every other item as it was. -/
def State.withMonitors (s : State) (v : Vector (Option Monitor) 16) : State := { s with monitors := v }

/-- The monitors of `a` whose owners are `who` and that are ARMED become DETACHED; every other monitor stands as it was
(R136, R137). -/
def State.detachedMonitors (s : State) (a : AccIx) (who : Port → Bool) : Vector (Option Monitor) 16 :=
  s.monitors.map fun m => m.map fun m => { m with armed := m.armed && !(m.acc == a && who m.owner) }

/-- MONITOR_DETACHED to `q` for each of its ARMED monitors on `a`, in ascending order of index (R46, R136). -/
def State.detachNotices (s : State) (a : AccIx) (who : Port → Bool) (reason : DetachReason) (q : Port) :
    List EventRecord :=
  allMonitors.filterMap fun i => (s.monitor i).bind fun m =>
    if m.armed ∧ m.acc = a ∧ who m.owner ∧ m.owner = q then some ⟨.monitorDetached i a reason, s.tick⟩ else none

/-- The value that a monitor judges of those handed over for `a`: none unless it is ARMED and names `a`; the live value
under source LIVE; the value of the closed-window record, where a close hands one over, under source CLOSED (R132). -/
def Monitor.judges (m : Monitor) (a : AccIx) (live : Wide) (closed : Option Wide) : Option Wide :=
  match m.armed && m.acc == a, m.config.source with
  | true, .live => some live
  | true, .closed => closed
  | false, _ => none

/-- The monitors after the values of `a` have been judged: region and nothing else, of the monitors that judge a value
(R132, R133). -/
def State.judgedMonitors (s : State) (a : AccIx) (live : Wide) (closed : Option Wide) : Vector (Option Monitor) 16 :=
  s.monitors.map fun m => m.map fun m =>
    match m.judges a live closed with
    | some v => { m with region := m.config.regionAfter m.region v.toInt }
    | none => m

/-- THRESHOLD to `q` for each monitor whose change of region is reported, in ascending order of index: to the monitor's
owner and, under NOTIFY_READERS, to each reader of the record `r`, with the value clamped to the signed 64-bit range (R132,
R134, R135). -/
def State.thresholdNotices (s : State) (a : AccIx) (r : Option Accumulator) (live : Wide) (closed : Option Wide)
    (q : Port) : List EventRecord :=
  allMonitors.filterMap fun i => (s.monitor i).bind fun m =>
    (m.judges a live closed).bind fun v =>
      let region := m.config.regionAfter m.region v.toInt
      if m.config.reports m.region region ∧
          (m.owner = q ∨ (m.config.notifyReaders = true ∧ ∃ x ∈ r, (x.reader q).isSome = true)) then
        some ⟨.threshold i m.acc region (BitVec.ofInt 64 (max (-(2 ^ 63)) (min (2 ^ 63 - 1) v.toInt))), s.tick⟩
      else none

/-! ### The end of a session, record by record (R23 to R25, R39, R47) -/

/-- The record that the end of the session of `p` leaves at `a`: FREE when `p` owned it under DROP, ORPHANED and without an
offer when `p` owned it under KEEP, and in every record that stays, no standing of `p` and no offer that names it. -/
def Accumulator.afterEnd (r : Accumulator) (p : Port) : Option Accumulator :=
  if r.owner = some p ∧ r.policies.orphanPolicy = .drop then none
  else some { r with
    owner := if r.owner = some p then none else r.owner
    contributors := withEntry r.contributors p false
    readers := withEntry r.readers p none
    offer := if r.owner = some p ∨ r.offer.any (·.port == p) then none else r.offer }

/-- The events that the end of the session of `p` posts to `q` for the record `r` of `a`, in their order. -/
def State.endNotices (s : State) (p : Port) (a : AccIx) (r : Accumulator) (q : Port) : List EventRecord :=
  let withdrawn := toEach (fun q => r.offer.any (·.port == q)) ⟨.offerWithdrawn a, s.tick⟩ q
  let shares : Port → Bool := fun q => decide (q ≠ p) && (r.isContributor q || (r.reader q).isSome)
  if r.owner = some p then
    match r.policies.orphanPolicy with
    | .keep => withdrawn ++ toEach shares ⟨.accOrphaned a, s.tick⟩ q
    | .drop => withdrawn ++ toEach shares ⟨.accGone a .ownerEnded, s.tick⟩ q
        ++ s.detachNotices a (· != p) .released q
  else toEach (fun q => r.owner == some q && r.offer.any (·.port == p)) ⟨.offerEnded a p, s.tick⟩ q

/-- The record of `a` is dropped by the end of the session of `p`. -/
def State.dropsAtEnd (s : State) (p : Port) (a : AccIx) : Bool :=
  (s.acc a).any fun r => r.owner == some p && r.policies.orphanPolicy == .drop

/-- The state after the claim that ends the session of `p` (R164): the session record, which owes no tick (log entry 4); the
accumulators, their claims and the pool; the monitors; the groups; the events posted; and the decoder of `p`, which gives
back what it holds (R165, R187; log entry 8). -/
def State.afterEnd (s : State) (p : Port) (cause : EndCause) (response : Option Response) : State :=
  let closed := s.setSession p { s.session p with
    lease := none, lastEnd := cause, tickOwed := false,
    atEngine := true, atEvents := true, atPort := true, closeResponse := response }
  let told := closed.posted fun q =>
    allAccs.flatMap fun a => ((s.acc a).map fun r => s.endNotices p a r q).getD []
  { told.setPort p { s.port p with holding := false } with
    accs := Vector.ofFn fun a => (s.acc a).bind (·.afterEnd p)
    claimLists := Vector.ofFn fun a => if s.dropsAtEnd p a then [] else s.claims a
    pool := s.pool + (allAccs.map fun a => if s.dropsAtEnd p a then s.depthOf a else 0).sum
    monitors := s.monitors.map fun m => m.bind fun m =>
      if m.owner = p then none else some { m with armed := m.armed && !s.dropsAtEnd p m.acc }
    groups := s.groups.map fun r => { r with owner := if r.owner = some p then none else r.owner } }

/-! ### Delivery (R174, R184) -/

/-- A port record after the bytes `sdi` have been exchanged, and the bytes shifted out. -/
def PortRecord.exchange (r : PortRecord) : List Byte → PortRecord × List (Option Byte)
  | [] => (r, [])
  | b :: rest =>
    let r' := r.shiftByte b
    ((r'.exchange rest).1, r'.sdo :: (r'.exchange rest).2)

end Sys2Proof.Machine
end

