-- ==== Sys2Proof/Certificates/Slice0/Obligations.lean ====
section
/-! DEFINITION. The statements for the provers: what each command does, as the rules of spec/ give it, and what every
sound state keeps. A next state is given whole wherever it can be, so that the same equation says the result and that
nothing else changes. -/

open Sys2Proof Sys2Proof.Machine

/-! ### The queue of commands -/

/-- The command at the front of the queue is the one a step runs, on the state with the queue's rest; with no command
waiting a step changes nothing (the model's choice, log entry 1). -/
def Obligations.StepRunsTheFrontCommand : Prop :=
  (∀ (c : Instr) (rest : List Instr) (s : State), s.pending = c :: rest → step s = exec c (s.setPending rest)) ∧
  ∀ s : State, s.pending = [] → step s = .next s

/-- No command faults or is refused, in any state, and none touches the queue of waiting commands. The queue is the model's
own (log entry 1), and so is its survival of a DEVICE_RESET (log entry 3). -/
def Obligations.EveryCommandAnswersNext : Prop :=
  ∀ (c : Instr) (s : State), ∃ t, exec c s = .next t ∧ t.pending = s.pending

/-- Every command is spelled by its row number and operands, and each raw command that spells a command is that command's
own spelling. The operands of the rows and this spelling are the model's choice (log entry 2). -/
def Obligations.SpellingsAreExact : Prop :=
  (∀ i : Instr, i.raw.command? = some i) ∧ ∀ (r : RawCommand) (i : Instr), r.command? = some i → i.raw = r

/-! ### Invariants -/

/-- The state after device reset is sound. -/
def Obligations.ResetIsSound : Prop := State.reset.Sound

/-- From every sound state, every step leads to a sound state. -/
def Obligations.StepKeepsSound : Prop := ∀ s t : State, s.Sound → step s = .next t → t.Sound

/-- R183: at most 4 frames in a request queue, at most 8 reservations and queued responses on a port; R175: at most 140
bytes kept. -/
def Obligations.StepKeepsPortLimits : Prop := ∀ s t : State, s.PortsFit → step s = .next t → t.PortsFit

/-- R145: an event queue holds at most 15 records that are not the marker, and the marker only as the last record. -/
def Obligations.StepKeepsEventQueueShape : Prop := ∀ s t : State, s.EventsFit → step s = .next t → t.EventsFit

/-- R98: the history depths of all accumulators, added to the free slots of the pool, always total 256. -/
def Obligations.StepKeepsPoolTotal : Prop := ∀ s t : State, s.PoolBalanced → step s = .next t → t.PoolBalanced

/-- R100, R103: rings hold consecutive sequences that end one below the open sequence, and cursors lie between 1 and the
open sequence. -/
def Obligations.StepKeepsHistories : Prop := ∀ s t : State, s.HistoriesFit → step s = .next t → t.HistoriesFit

/-! ### Device reset -/

/-- State.reset and the state that DEVICE_RESET leaves hold the reset values of every block; RESETN_RETURNS_HIGH ends the
reset and begins the REFCLK count anew. That State.reset has every SELn high, RESETn high and an empty queue, and that
DEVICE_RESET keeps the SELn levels and the waiting commands, is the model's choice (log entry 3); that
RESETN_RETURNS_HIGH changes nothing with RESETn high is too (log entry 1). -/
def Obligations.DeviceResetRestoresEveryBlock : Prop :=
  (State.reset.HasResetValues ∧ State.reset.pending = [] ∧ State.reset.resetLow = false ∧
    ∀ p, (State.reset.port p).selLow = false) ∧
  (∀ s : State, ∃ t, exec .deviceReset s = .next t ∧ t.HasResetValues ∧ t.pending = s.pending ∧ t.resetLow = true ∧
    ∀ p, (t.port p).selLow = (s.port p).selLow) ∧
  ∀ s : State,
    (s.resetLow = true → exec .resetnReturnsHigh s = .next { s with resetLow := false, refclk := 0 }) ∧
    (s.resetLow = false → exec .resetnReturnsHigh s = .next s)

/-- While RESETn is low no transaction begins, none is judged, no tick is counted and no block changes. That only the levels
of the SELn pins follow their lines, and that every other command changes nothing, is the model's choice (log entries 1
and 3). -/
def Obligations.NothingMovesWhileResetnLow : Prop :=
  ∀ s : State, s.HeldInReset → s.resetLow = true →
    (∀ p, exec (.transactionStart p) s = .next (s.setPort p { s.port p with selLow := true })) ∧
    (∀ p, exec (.transactionEnd p) s = .next (s.setPort p { s.port p with selLow := false })) ∧
    ∀ c : Instr, (∀ p, c ≠ .transactionStart p ∧ c ≠ .transactionEnd p) → c ≠ .resetnReturnsHigh →
      exec c s = .next s

/-! ### Time -/

/-- A tick increases the tick counter, counts every RUNNING group down by 1 and every lease down by 1, and changes nothing
else. A countdown or a lease that the tick would bring to 0 is marked for its BOUNDARY or LEASE_EXPIRY (log entry 4), and
until the last tick's boundaries, notices, claims and lease expiries are all taken, and while RESETn is low, no tick is
(R90; log entries 1, 3 and 4). -/
def Obligations.TickCountsDown : Prop :=
  ∀ s : State,
    (s.tickReady = true → ∃ t, exec .tick s = .next t ∧
      t = { s with refclk := 0, tick := s.tick + 1, groups := t.groups, sessions := t.sessions } ∧
      (∀ g, t.group g = match (s.group g).countdown with
        | none => s.group g
        | some c => if 1 < c then { s.group g with countdown := some (c - 1) }
                    else { s.group g with boundaryDue := true }) ∧
      ∀ p, t.session p = match (s.session p).lease with
        | none => s.session p
        | some l => if 1 < l.remaining then { s.session p with lease := some { l with remaining := l.remaining - 1 } }
                    else { s.session p with tickOwed := true }) ∧
    (s.tickReady = false → exec .tick s = .next s)

/-- R86: at countdown 0 the boundary count increases by 1, the countdown is reloaded with the period, and the boundary is
handed over with that count and the tick counter. A group STOPPED after the tick reached it has no boundary; a group
whose boundary is not due has none (log entries 1 and 4). -/
def Obligations.BoundaryReloadsAndHandsOver : Prop :=
  ∀ (g : GroupIx) (s : State),
    ((s.group g).boundaryDue = true → (s.group g).running = true →
      exec (.boundary g) s = .next ((s.setGroup g { s.group g with
          boundaryCount := (s.group g).boundaryCount + 1, countdown := some (s.group g).period, boundaryDue := false
        }).setNotice g (some { group := g, count := (s.group g).boundaryCount + 1, tick := s.tick }))) ∧
    ((s.group g).boundaryDue = true → (s.group g).running = false →
      exec (.boundary g) s = .next (s.setGroup g { s.group g with boundaryDue := false })) ∧
    ((s.group g).boundaryDue = false → exec (.boundary g) s = .next s)

/-- R88: the notice forms one close claim for each record that is not FREE and is bound to the group, and changes nothing
else. With no boundary handed over the command changes nothing (the model's choice, log entry 1). -/
def Obligations.BoundaryNoticeFormsClaims : Prop :=
  ∀ (g : GroupIx) (s : State),
    (∀ b, s.notice g = some b → exec (.boundaryNotice g) s = .next { s.setNotice g none with
        claimLists := Vector.ofFn fun a =>
          if (s.acc a).any (fun r => r.policies.binding == .group b.group) then s.claims a ++ [b] else s.claims a }) ∧
    (s.notice g = none → exec (.boundaryNotice g) s = .next s)

/-- R89: a close claim is ignored when stale, skipped at sequence 2^48 − 1, and otherwise closes the window with cause
SCHEDULED, its group, boundary count and tick stamp. With no claim held the command changes nothing (the model's choice,
log entry 1). -/
def Obligations.CloseClaimIsJudgedInOrder : Prop :=
  ∀ (a : AccIx) (s : State),
    (s.claims a = [] → exec (.closeClaim a) s = .next s) ∧
    ∀ (b : Boundary) (rest : List Boundary), s.claims a = b :: rest →
      (s.acc a = none → exec (.closeClaim a) s = .next (s.setClaims a rest)) ∧
      ∀ r, s.acc a = some r → exec (.closeClaim a) s = .next
        (if r.policies.binding ≠ .group b.group then s.setClaims a rest
         else if r.openSequence.toNat = 2 ^ 48 - 1 then s.setClaims a rest
         else (s.setClaims a rest).closeWindow a r (.scheduled b.group b.count) b.tick)

/-- R160: the tick owed to a session timer ends the session with cause EXPIRY, or, when a refresh came first, decreases
lease remaining by 1; in CLOSED it has no effect on the session. The tick owed is the model's own (log entry 4); with none
owed the command changes nothing (the model's choice, log entry 1). -/
def Obligations.LeaseExpiryEndsTheSession : Prop :=
  ∀ (p : Port) (s : State),
    (∀ l, (s.session p).tickOwed = true → (s.session p).lease = some l → exec (.leaseExpiry p) s = .next
      (if l.remaining ≤ 1 then s.afterEnd p .expiry none
       else s.setSession p { s.session p with
         lease := some { l with remaining := l.remaining - 1 }, tickOwed := false })) ∧
    ((s.session p).tickOwed = true → (s.session p).lease = none →
      exec (.leaseExpiry p) s = .next (s.setSession p { s.session p with tickOwed := false })) ∧
    ((s.session p).tickOwed = false → exec (.leaseExpiry p) s = .next s)

/-! ### Transactions and frames -/

/-- R173: SELn falling begins a transaction: no bytes received, the header formed, the head response copied and left in its
queue. While RESETn is low no transaction begins (R188); that the level alone is recorded then (log entry 3), and that the
command changes nothing when SELn is low already (log entry 1), is the model's choice. -/
def Obligations.TransactionStartCopiesHeadResponse : Prop :=
  ∀ (p : Port) (s : State),
    ((s.port p).selLow = false → s.resetLow = false →
      exec (.transactionStart p) s = .next (s.setPort p { s.port p with
        selLow := true, framing := .selected, received := 0, kept := [], header := s.header p, sdo := none
        delivery := (s.port p).responses.head?.map fun x => { response := x, shifted := 0, queued := true } })) ∧
    ((s.port p).selLow = false → s.resetLow = true →
      exec (.transactionStart p) s = .next (s.setPort p { s.port p with selLow := true })) ∧
    ((s.port p).selLow = true → exec (.transactionStart p) s = .next s)

/-- R185, R186 and Table 11-16: each bit of the header byte is its flag as it stands, the two lowest bits are CAUSE, and
ATTNn is asserted exactly while RESP or EVT would be set. -/
def Obligations.HeaderAndAttentionShowTheQueues : Prop :=
  ∀ (p : Port) (s : State),
    (s.header p).getLsbD 7 = !(s.port p).responses.isEmpty ∧
    (s.header p).getLsbD 6 = !(s.events p).isEmpty ∧
    (s.header p).getLsbD 5 = (s.session p).isOpen ∧
    ((s.header p).getLsbD 4 = true ↔ ∃ l, (s.session p).lease = some l ∧ 4 * l.remaining < l.length) ∧
    (s.header p).getLsbD 3 = (s.port p).refused ∧
    (s.header p).getLsbD 2 = (s.port p).expired ∧
    (s.header p).toNat % 4 = (match (s.port p).cause with | .none => 0 | .frame => 1 | .queueFull => 2) ∧
    (s.attention p = true ↔ (s.port p).responses ≠ [] ∨ s.events p ≠ [])

/-- One byte on SCKn shifts the next byte out and keeps the byte in, up to 140; a header that showed REFUSED clears it when
complete; the last CRC byte of a response that still stands at the head of the queue removes it (log entry 9). Outside a
transaction, and so also on a port whose SELn has been low since a device reset, the command changes nothing (the model's
choice, log entries 1 and 15). -/
def Obligations.ByteShiftedExchangesOneByte : Prop :=
  ∀ (p : Port) (b : Byte) (s : State),
    ((s.port p).framing = .idle → exec (.byteShifted p b) s = .next s) ∧
    ((s.port p).framing = .selected → ∃ t, exec (.byteShifted p b) s = .next t ∧
      t = s.setPort p { s.port p with
        sdo := (t.port p).sdo, received := (s.port p).received + 1, kept := ((s.port p).kept ++ [b]).take
          (max 140 (s.port p).kept.length), refused := (t.port p).refused
        responses := (t.port p).responses, delivery := (t.port p).delivery } ∧
      ((s.port p).received = 0 →
        (t.port p).sdo = some (s.port p).header ∧
        (t.port p).refused = ((s.port p).refused && !(s.port p).header.getLsbD 3) ∧
        (t.port p).responses = (s.port p).responses ∧ (t.port p).delivery = (s.port p).delivery) ∧
      (0 < (s.port p).received →
        (t.port p).refused = (s.port p).refused ∧
        ((s.port p).delivery = none →
          (t.port p).sdo = some (if (s.port p).received = 1 then 0x00 else 0xFF) ∧
          (t.port p).responses = (s.port p).responses ∧ (t.port p).delivery = none) ∧
        ∀ d, (s.port p).delivery = some d →
          let x := d.response
          let run := byte (2 + x.payload.length) :: x.tag :: x.status.code :: x.payload
          let frame := run ++ [crc8 run]
          (t.port p).sdo = some (frame.getD d.shifted 0xFF) ∧
          (t.port p).responses =
            (if d.queued = true ∧ d.shifted + 1 = frame.length then (s.port p).responses.tail
             else (s.port p).responses) ∧
          (t.port p).delivery = some
            (if d.shifted + 1 < frame.length then { d with shifted := d.shifted + 1 }
             else { d with shifted := frame.length, queued := false })))

/-- R174, R184: in a transaction that begins with a response at the head of the queue, the bytes shifted out are the header,
then the length, tag, status, payload and CRC of that response, then 0xFF; the response leaves the queue with the last
CRC byte, not before and only once. The status codes are those of Table 11-17. -/
def Obligations.DeliveryIsWholeAndOnce : Prop :=
  ([.ok, .cancelled, .badKind, .badLength, .badField, .badState, .noSession, .alreadyOpen, .notOwner, .notAuthorised,
    .inUse, .noAccumulator, .noHistorySpace, .notEmpty, .gone, .windowPassed, .windowNotOpen, .notFound, .busy, .noOffer,
    .alreadyOwned, .notSubscribed, .notHeld, .noMonitor, .sequenceLimit] : List Status).map Status.code =
   [0x00, 0x01, 0x10, 0x11, 0x12, 0x13, 0x20, 0x21, 0x30, 0x31, 0x32, 0x33, 0x34, 0x35, 0x36, 0x40, 0x41, 0x42, 0x43,
    0x44, 0x45, 0x46, 0x47, 0x48, 0x49] ∧
  ∀ (r : PortRecord) (header : Byte) (x : Response) (rest : List Response) (sdi : List Byte),
    r.responses = x :: rest → x.payload.length ≤ 136 →
    ((r.begin header).exchange sdi).2 =
      ((header :: byte (2 + x.payload.length) :: x.tag :: x.status.code :: x.payload ++
          [crc8 (byte (2 + x.payload.length) :: x.tag :: x.status.code :: x.payload)] ++
          List.replicate sdi.length 0xFF#8).take sdi.length).map some ∧
    ((r.begin header).exchange sdi).1.responses =
      (if sdi.length < x.payload.length + 5 then x :: rest else rest)

/-- R175 to R177: a frame as the host sends it (kind, tag, length, payload, CRC), whatever filler follows, is judged a NULL,
a RESYNC or a request with exactly that kind, tag and payload; no byte is no frame, and bytes that are no such frame are
dropped. The CRC begins at 0; each byte is combined into it by exclusive-or, and it is then shifted left eight times, a 1
leaving the top place being answered by an exclusive-or of 0x07. -/
def Obligations.SentFrameIsReadBack : Prop :=
  let shift : Byte → Byte := fun c => if c.getLsbD 7 then (c <<< 1) ^^^ 0x07 else c <<< 1
  crc8 [] = 0x00 ∧ (∀ (l : List Byte) (b : Byte), crc8 (l ++ [b]) = shift^[8] (crc8 l ^^^ b)) ∧
  (∀ kept : List Byte, judgeBytes 0 kept = .nothing) ∧
  (∀ (n : Nat) (kept : List Byte), n ≠ 0 →
    (∀ (kind tag : Byte) (payload filler : List Byte), payload.length ≤ 136 →
      kept ≠ kind :: tag :: byte payload.length :: payload ++
        crc8 (kind :: tag :: byte payload.length :: payload) :: filler) →
    judgeBytes n kept = .dropped) ∧
  ∀ (kind tag : Byte) (payload filler : List Byte), payload.length ≤ 136 →
    let run := kind :: tag :: byte payload.length :: payload
    let sent := run ++ [crc8 run] ++ filler
    judgeBytes sent.length (sent.take 140) =
      if kind = 0x00 ∧ payload = [] then .null
      else if kind = 0xFF ∧ payload = [] then .resync
      else .offered { kind := kind, tag := tag, payload := payload }

/-- R177 to R179: SELn rising ends the transaction and judges its bytes: nothing without a byte; a short or bad frame is
dropped with cause FRAME; a good frame refreshes the lease and is accepted with a reservation, or dropped with cause
QUEUE_FULL when 4 frames are queued or reservations and responses number 8; RESYNC is acted on (log entry 6). On an IDLE
port no transaction ends and the level of SELn alone is recorded (the model's choice, log entries 1 and 3). -/
def Obligations.TransactionEndJudgesTheFrame : Prop :=
  ∀ (p : Port) (s : State),
    let idle : PortRecord := { s.port p with selLow := false, framing := .idle, sdo := none, delivery := none }
    let refreshed : Session :=
      { s.session p with lease := (s.session p).lease.map fun l => { l with remaining := l.length } }
    ((s.port p).framing = .idle → exec (.transactionEnd p) s = .next (s.setPort p { s.port p with selLow := false })) ∧
    ((s.port p).framing = .selected →
      (s.judged p = .nothing → exec (.transactionEnd p) s = .next (s.setPort p idle)) ∧
      (s.judged p = .dropped →
        exec (.transactionEnd p) s = .next (s.setPort p { idle with refused := true, cause := .frame })) ∧
      (s.judged p = .null → exec (.transactionEnd p) s = .next ((s.setPort p idle).setSession p refreshed)) ∧
      (s.judged p = .resync → exec (.transactionEnd p) s = exec (.resync p) s) ∧
      ∀ f, s.judged p = .offered f → exec (.transactionEnd p) s = .next
        (if (s.port p).requests.length < 4 ∧ (s.port p).reservations + (s.port p).responses.length < 8 then
          (s.setPort p { idle with
            requests := (s.port p).requests ++ [f], reservations := (s.port p).reservations + 1 }).setSession p refreshed
         else (s.setPort p { idle with refused := true, cause := .queueFull }).setSession p refreshed))

/-- R159, R163, R177, R180: a NULL frame refreshes the lease of an OPEN session and takes no queue place and no reservation.
A RESYNC ends an OPEN session with cause RESYNC, whose claim owes no tick and frees the decoder (log entries 4 and 8); in
CLOSED it empties the port's request and response queues, frees its decoder and drops its reservations (and with them a
CLOSE response not yet handed over, log entry 7). On other bytes, and on an IDLE port, the two steps do not occur and
change nothing (the model's choice, log entries 1 and 6). -/
def Obligations.NullAndResyncActAtOnce : Prop :=
  ∀ (p : Port) (s : State),
    let idle : PortRecord := { s.port p with selLow := false, framing := .idle, sdo := none, delivery := none }
    ((s.port p).framing = .selected → s.judged p = .null →
      exec (.null p) s = .next ((s.setPort p idle).setSession p { s.session p with
        lease := (s.session p).lease.map fun l => { l with remaining := l.length } })) ∧
    ((s.port p).framing = .selected → s.judged p = .resync → (s.session p).isOpen = true →
      exec (.resync p) s = .next ((s.setPort p idle).afterEnd p .resync none)) ∧
    ((s.port p).framing = .selected → s.judged p = .resync → (s.session p).isOpen = false →
      exec (.resync p) s = .next ((s.setPort p { idle with
        requests := [], holding := false, reservations := 0, responses := [] }).setSession p
          { s.session p with closeResponse := none })) ∧
    ((s.port p).framing = .idle ∨ s.judged p ≠ .null → exec (.null p) s = .next s) ∧
    ((s.port p).framing = .idle ∨ s.judged p ≠ .resync → exec (.resync p) s = .next s)

/-! ### The decoder -/

/-- R182, step 1: a head request of undefined kind is answered BAD_KIND, or BAD_LENGTH for kinds 0x00 and 0xFF with a
payload, in either session state; the kinds of request have the codes of Table 11-3. With a request of a known kind at the
head, or with none, BAD_KIND changes nothing (the model's choice, log entry 1). -/
def Obligations.UndefinedKindIsAnswered : Prop :=
  ([.openSession, .closeSession, .portStatus, .accCreate, .accConfigure, .accRelease, .accInfo, .accGrant, .accOffer,
    .accAccept, .accClaim, .subscribe, .unsubscribe, .accumulate, .load, .closeWindow, .fence, .jobCancel, .readLive,
    .readHistory, .readRecord, .historyResize, .groupClaim, .groupSet, .groupStart, .groupStop, .groupRelease, .groupInfo,
    .monCreate, .monAttach, .monFree, .monInfo, .eventFetch] : List Kind).map Kind.code =
   [0x01, 0x02, 0x03, 0x10, 0x11, 0x12, 0x13, 0x18, 0x19, 0x1A, 0x1B, 0x1C, 0x1D, 0x20, 0x21, 0x22, 0x23, 0x24, 0x28,
    0x29, 0x2A, 0x2B, 0x30, 0x31, 0x32, 0x33, 0x34, 0x35, 0x38, 0x39, 0x3A, 0x3B, 0x40] ∧
  (∀ (p : Port) (s : State), (s.port p).requests = [] → exec (.badKind p) s = .next s) ∧
  ∀ (p : Port) (s : State) (f : Frame), (s.port p).requests.head? = some f →
    ((∀ k : Kind, f.kind ≠ k.code) → exec (.badKind p) s = .next (s.answered p f
      (if (f.kind = 0x00 ∨ f.kind = 0xFF) ∧ f.payload ≠ [] then .badLength else .badKind) [])) ∧
    ∀ k : Kind, f.kind = k.code → exec (.badKind p) s = .next s

/-- R156: in CLOSED the decoder answers NO_SESSION, with no payload, to every request of a known kind other than OPEN, before
any check of its length or fields, and nothing else changes. A request that the decoder already holds is not put to the
session test again (log entry 8). -/
def Obligations.ClosedSessionAnswersNoSession : Prop :=
  ∀ (k : Kind) (p : Port) (s : State) (f : Frame), k ≠ .openSession → s.HeadIs p k f →
    (s.session p).isOpen = false → (s.port p).holding = false →
    exec (k.command p) s = .next (s.answered p f .noSession [])

/-- R182 steps 3 and 4, R190, R191: a request whose length or fields are wrong for its kind is answered by the decoder, with
no payload, and reaches no block. What the decoder reads from the payloads it accepts stands in the statements about the
single kinds, which give each payload as the tables have it sent. -/
def Obligations.DecoderRefusesUndefinedPayloads : Prop :=
  ∀ (k : Kind) (p : Port) (s : State) (f : Frame) (st : Status), s.HeadIs p k f →
    ((s.session p).isOpen = true ∨ k = .openSession) → k.refusal f.payload = some st →
    exec (k.command p) s = .next (s.answered p f st [])

/-- A request's command is taken only when that request stands at the head of its port's request queue (R181; log entry 1);
and, the model's choice (log entry 4), a group request that passes the decoder's checks is held while a boundary is due,
and a PORT_STATUS while a tick is owed to the session timer. -/
def Obligations.RequestsWaitTheirTurn : Prop :=
  ∀ (k : Kind) (p : Port) (s : State),
    ((∀ f, ¬ s.HeadIs p k f) → exec (k.command p) s = .next s) ∧
    (∀ f, s.Asks p .portStatus f → f.payload = [] → (s.session p).tickOwed = true →
      exec (.portStatus p) s = .next (s.held p)) ∧
    ∀ f, k ∈ [Kind.groupClaim, .groupSet, .groupStart, .groupStop, .groupRelease, .groupInfo] → s.Asks p k f →
      k.refusal f.payload = none → s.clockReady = false → exec (k.command p) s = .next (s.held p)

/-! ### Sessions -/

/-- R157, R158: OPEN taken in CLOSED opens a session with the next number and the carried lease length, clears EXPIRED and is
answered with number and last end cause; in OPEN it is answered ALREADY_OPEN; while an end is in progress it waits, held by
the decoder (log entry 8). -/
def Obligations.OpenStartsASession : Prop :=
  ∀ (p : Port) (s : State) (f : Frame) (b1 b0 : Byte), s.HeadIs p .openSession f → f.payload = [b1, b0] →
    16 ≤ 256 * b1.toNat + b0.toNat → 256 * b1.toNat + b0.toNat ≤ 8192 →
    let length := 256 * b1.toNat + b0.toNat
    ((s.session p).isOpen = false → (s.session p).ending = false →
      exec (.openSession p) s = .next (((s.setSession p { s.session p with
            number := (s.session p).number + 1, lease := some { length := length, remaining := length } }).setPort p
          { s.port p with expired := false }).answered p f .ok
        (wordBytes 2 ((s.session p).number + 1) ++ [(s.session p).lastEnd.sent]))) ∧
    ((s.session p).isOpen = true → (s.session p).ending = false →
      exec (.openSession p) s = .next (s.answered p f .alreadyOpen [])) ∧
    ((s.session p).ending = true → exec (.openSession p) s = .next (s.held p))

/-- R162: CLOSE ends the session with cause CLOSE; its response, with the number of the session ended, goes to the port with
the end. The claim that ends the session owes no tick and frees the decoder (log entries 4 and 8). -/
def Obligations.CloseEndsTheSession : Prop :=
  ∀ (p : Port) (s : State) (f : Frame), s.Asks p .closeSession f → f.payload = [] →
    exec (.closeSession p) s = .next ((s.popped p).afterEnd p .close
      (some { tag := f.tag, status := .ok, payload := wordBytes 2 (s.session p).number }))

/-- R23 to R25, R39, R47, R95, R141, R164: the claim that ends the session of `p` orphans or releases what `p` owned, removes
`p` from every record, frees its monitors and disowns its groups, and leaves the engine, the event queue of `p` and port
`p` to take the end. That a tick owed is dropped with the session (log entry 4), and that the decoder gives back what it
holds in the same claim (log entry 8), is the model's. -/
def Obligations.SessionEndIsOneClaim : Prop :=
  ∀ (s : State) (p : Port) (cause : EndCause) (response : Option Response),
    s.endSession p cause response = s.afterEnd p cause response

/-- R72, R153, R167, R168: the three hand-overs of a session's end: the engine empties job queue `p` and marks a running job
of `p` DISCARD; the event queue is emptied; the port is emptied, keeps a CLOSE response alone, and sets EXPIRED on
expiry. A hand-over that is not owed changes nothing (the model's choice, log entry 1). -/
def Obligations.HandOversEmptyTheQueues : Prop :=
  ∀ (p : Port) (s : State),
    ((s.session p).atEngine = true → exec (.engineSessionEnd p) s = .next
      (((s.setSession p { s.session p with atEngine := false }).setJobs p []).setRunning
        (s.running.map fun j => if j.port = p then { j with mark := .discard } else j))) ∧
    ((s.session p).atEvents = true → exec (.eventQueueSessionEnd p) s = .next
      ((s.setSession p { s.session p with atEvents := false }).setEvents p [])) ∧
    ((s.session p).atPort = true → exec (.portSessionEnd p) s = .next
      ((s.setSession p { s.session p with atPort := false, closeResponse := none }).setPort p { s.port p with
        requests := [], holding := false, reservations := 0, responses := (s.session p).closeResponse.toList
        delivery := (s.port p).delivery.map fun d => { d with queued := false }
        expired := (s.port p).expired || decide ((s.session p).lastEnd = .expiry) })) ∧
    ((s.session p).atEngine = false → exec (.engineSessionEnd p) s = .next s) ∧
    ((s.session p).atEvents = false → exec (.eventQueueSessionEnd p) s = .next s) ∧
    ((s.session p).atPort = false → exec (.portSessionEnd p) s = .next s)

/-- R11, R85, R142, R170: the four requests that report a record are answered OK with the bytes of Table 11-9 and change
nothing else; ACC_INFO and MON_INFO answer a FREE record with its state alone. Bit 3 of the info flags is the offer's
keep-contributor flag where an offer is present, and left open where none is (log entry 16). A GROUP_INFO and a
PORT_STATUS are taken before or after a tick, not within one (log entry 4). -/
def Obligations.InfoRequestsReport : Prop :=
  ∀ (p : Port) (s : State) (f : Frame),
    (∀ a : AccIx, s.Asks p .accInfo f → f.payload = [byte a.val] →
      (s.acc a = none → exec (.accInfo p) s = .next (s.answered p f .ok [0x00])) ∧
      ∀ r, s.acc a = some r → ∃ keep : Bool, (∀ o, r.offer = some o → keep = o.keep) ∧
        exec (.accInfo p) s = .next (s.answered p f .ok (r.sent keep))) ∧
    (∀ i : MonIx, s.Asks p .monInfo f → f.payload = [byte i.val] →
      (s.monitor i = none → exec (.monInfo p) s = .next (s.answered p f .ok [0x00])) ∧
      ∀ m, s.monitor i = some m → exec (.monInfo p) s = .next (s.answered p f .ok m.sent)) ∧
    (∀ g : GroupIx, s.Asks p .groupInfo f → f.payload = [byte g.val] → s.clockReady = true →
      exec (.groupInfo p) s = .next (s.answered p f .ok ([if (s.group g).running then 0x01 else 0x00,
        match (s.group g).owner with | some q => byte q.val | none => 0xFF] ++ beBytes 2 (s.group g).period ++
        beBytes 2 ((s.group g).countdown.getD 0) ++ wordBytes 4 (s.group g).boundaryCount ++ wordBytes 4 s.tick))) ∧
    ∀ l : Lease, s.Asks p .portStatus f → f.payload = [] → (s.session p).lease = some l →
      (s.session p).tickOwed = false →
      exec (.portStatus p) s = .next (s.answered p f .ok ([0x01] ++ wordBytes 2 (s.session p).number ++
        beBytes 2 l.length ++ beBytes 2 l.remaining ++ [(s.session p).lastEnd.sent] ++ wordBytes 4 s.tick))

/-! ### Accumulators -/

/-- R5, R6: ACC_CREATE takes the named FREE record, or for "any" the FREE record with the lowest index, makes it OWNED with
the values of Table 1-1 and takes its depth from the pool. -/
def Obligations.AccCreateTakesAFreeRecord : Prop :=
  ∀ (p : Port) (s : State) (f : Frame) (x : CreateArgs), s.Asks p .accCreate f → x.depth ≤ 32 →
    f.payload = x.sent →
    (∀ a, x.target = some a ∨ (x.target = none ∧ ∀ b, b < a → (s.acc b).isSome = true) → s.acc a = none →
      exec (.accCreate p) s = .next
        (if s.pool < x.depth then s.answered p f .noHistorySpace []
         else ((s.setPool (s.pool - x.depth)).setAcc a (some
            { owner := some p, policies := x.policies, live := 0, count := 0, saturated := false, openSequence := 1
              contributors := Vector.replicate 4 false, readers := Vector.replicate 4 none, offer := none
              depth := x.depth, ring := [] })).answered p f .ok [byte a.val])) ∧
    (∀ a, x.target = some a → (s.acc a).isSome = true →
      exec (.accCreate p) s = .next (s.answered p f .inUse [])) ∧
    (x.target = none → (∀ a, (s.acc a).isSome = true) →
      exec (.accCreate p) s = .next (s.answered p f .noAccumulator []))

/-- R7, R8: ACC_CONFIGURE replaces the five policy fields and nothing else; a change of mode needs count 0. -/
def Obligations.AccConfigureReplacesPolicies : Prop :=
  ∀ (p : Port) (s : State) (f : Frame) (a : AccIx) (new : Policies), s.Asks p .accConfigure f →
    f.payload = byte a.val :: new.sent →
    (s.acc a = none → exec (.accConfigure p) s = .next (s.answered p f .gone [])) ∧
    ∀ r, s.acc a = some r → exec (.accConfigure p) s = .next
      (if r.owner ≠ some p then s.answered p f .notOwner []
       else if new.mode ≠ r.policies.mode ∧ r.count ≠ 0 then s.answered p f .notEmpty []
       else (s.setAcc a (some { r with policies := new })).answered p f .ok [])

/-- R9, R90, R98, R136: ACC_RELEASE withdraws the offer, posts ACC_GONE to the contributors and readers, detaches the ARMED
monitors, returns the depth to the pool and makes the record FREE, its close claims discarded. -/
def Obligations.AccReleaseFreesTheRecord : Prop :=
  ∀ (p : Port) (s : State) (f : Frame) (a : AccIx), s.Asks p .accRelease f → f.payload = [byte a.val] →
    (s.acc a = none → exec (.accRelease p) s = .next (s.answered p f .gone [])) ∧
    ∀ r, s.acc a = some r → exec (.accRelease p) s = .next
      (if r.owner ≠ some p then s.answered p f .notOwner []
       else (((((s.posted fun q =>
            toEach (fun q => r.offer.any (·.port == q)) ⟨.offerWithdrawn a, s.tick⟩ q ++
            toEach (fun q => decide (q ≠ p) && (r.isContributor q || (r.reader q).isSome))
              ⟨.accGone a .released, s.tick⟩ q ++
            s.detachNotices a (fun _ => true) .released q).withMonitors
          (s.detachedMonitors a fun _ => true)).setPool (s.pool + r.depth)).setAcc a none).setClaims a
            []).answered p f .ok [])

/-! ### Sharing -/

/-- R29 to R31: ACC_GRANT adds or removes a contributor and tells it RIGHTS_CHANGED; a contributor removed that is no reader
loses its access, and its ARMED monitors there are detached (R46). -/
def Obligations.AccGrantChangesContributors : Prop :=
  ∀ (p : Port) (s : State) (f : Frame) (x : GrantArgs), s.Asks p .accGrant f → f.payload = x.sent →
    (s.acc x.acc = none → exec (.accGrant p) s = .next (s.answered p f .gone [])) ∧
    ∀ r, s.acc x.acc = some r →
      let changed := some { r with contributors := withEntry r.contributors x.target (!x.remove) }
      exec (.accGrant p) s = .next
      (if r.owner ≠ some p then s.answered p f .notOwner []
       else if x.target = p then s.answered p f .badField []
       else if (s.session x.target).isOpen = false then s.answered p f .badField []
       else if x.remove = false then
         if r.isContributor x.target then s.answered p f .ok []
         else ((s.setAcc x.acc changed).posted
           (toEach (· == x.target) ⟨.rightsChanged x.acc true, s.tick⟩)).answered p f .ok []
       else if r.isContributor x.target = false then s.answered p f .notFound []
       else if (r.reader x.target).isSome then
         ((s.setAcc x.acc changed).posted
           (toEach (· == x.target) ⟨.rightsChanged x.acc false, s.tick⟩)).answered p f .ok []
       else (((s.setAcc x.acc changed).posted fun q =>
             toEach (· == x.target) ⟨.rightsChanged x.acc false, s.tick⟩ q ++
             s.detachNotices x.acc (· == x.target) .accessLost q).withMonitors
           (s.detachedMonitors x.acc (· == x.target))).answered p f .ok [])

/-- R33, R34: ACC_OFFER sets, replaces or clears the offer, with OFFER_WITHDRAWN to the port a present offer named before
OFFER to the port named. -/
def Obligations.AccOfferSetsTheOffer : Prop :=
  ∀ (p : Port) (s : State) (f : Frame) (x : OfferArgs), s.Asks p .accOffer f → f.payload = x.sent →
    (s.acc x.acc = none → exec (.accOffer p) s = .next (s.answered p f .gone [])) ∧
    ∀ r, s.acc x.acc = some r → exec (.accOffer p) s = .next
      (if r.owner ≠ some p then s.answered p f .notOwner []
       else if x.target = some p then s.answered p f .badField []
       else if x.target.any (fun q => !(s.session q).isOpen) then s.answered p f .badField []
       else ((s.setAcc x.acc (some { r with offer := x.target.map fun q => { port := q, keep := x.keep } })).posted
         fun q => toEach (fun q => r.offer.any (·.port == q)) ⟨.offerWithdrawn x.acc, s.tick⟩ q ++
           toEach (fun q => x.target == some q) ⟨.offer x.acc p x.keep, s.tick⟩ q).answered p f .ok [])

/-- R35, R36: ACC_ACCEPT of the port named by the offer transfers ownership, keeps the previous owner as a contributor when
the offer says so, clears the offer, tells ACC_CLAIMED to the contributors, readers and previous owner, and takes from a
previous owner left without access its ARMED monitors there. -/
def Obligations.AccAcceptTransfersOwnership : Prop :=
  ∀ (p : Port) (s : State) (f : Frame) (a : AccIx), s.Asks p .accAccept f → f.payload = [byte a.val] →
    (s.acc a = none → exec (.accAccept p) s = .next (s.answered p f .gone [])) ∧
    (∀ r, s.acc a = some r → (r.owner = none ∨ ∀ o, r.offer = some o → o.port ≠ p) →
      exec (.accAccept p) s = .next (s.answered p f .noOffer [])) ∧
    ∀ r q keep, s.acc a = some r → r.owner = some q → r.offer = some { port := p, keep := keep } → q ≠ p →
      let r' : Accumulator := { r with
        owner := some p, offer := none
        contributors := withEntry (withEntry r.contributors p false) q (keep || r.isContributor q) }
      let lost := !r'.isContributor q && (r.reader q).isNone
      exec (.accAccept p) s = .next ((((s.setAcc a (some r')).posted fun x =>
          toEach (fun x => decide (x ≠ p) && (r'.isContributor x || (r.reader x).isSome || x == q))
            ⟨.accClaimed a p, s.tick⟩ x ++
          if lost then s.detachNotices a (· == q) .accessLost x else []).withMonitors
        (if lost then s.detachedMonitors a (· == q) else s.monitors)).answered p f .ok [])

/-- R40, R41: ACC_CLAIM makes the requester owner of an ORPHANED record, no longer its contributor, and tells ACC_CLAIMED to
the other contributors and readers. -/
def Obligations.AccClaimTakesAnOrphan : Prop :=
  ∀ (p : Port) (s : State) (f : Frame) (a : AccIx), s.Asks p .accClaim f → f.payload = [byte a.val] →
    (s.acc a = none → exec (.accClaim p) s = .next (s.answered p f .gone [])) ∧
    ∀ r, s.acc a = some r → exec (.accClaim p) s = .next
      (if r.owner ≠ none then s.answered p f .alreadyOwned []
       else if r.isContributor p = false ∧ r.reader p = none ∧ r.policies.readerPolicy = .privateAccess then
         s.answered p f .notAuthorised []
       else ((s.setAcc a (some { r with owner := some p, contributors := withEntry r.contributors p false })).posted
         (toEach (fun q => decide (q ≠ p) && (r.isContributor q || (r.reader q).isSome))
           ⟨.accClaimed a p, s.tick⟩)).answered p f .ok [])

/-- R43 to R46: SUBSCRIBE gives or replaces the requester's reader entry, its cursor the oldest held sequence or the open
sequence; UNSUBSCRIBE removes it, and with it, for a port that is neither owner nor contributor, its access. -/
def Obligations.SubscriptionsComeAndGo : Prop :=
  ∀ (p : Port) (s : State) (f : Frame),
    (∀ x : SubscribeArgs, s.Asks p .subscribe f → f.payload = x.sent →
      (s.acc x.acc = none → exec (.subscribe p) s = .next (s.answered p f .gone [])) ∧
      ∀ r, s.acc x.acc = some r →
        let cursor := if x.next = true ∨ r.ring = [] then r.openSequence else (r.ring.head?.map (·.sequence)).getD 0
        exec (.subscribe p) s = .next
        (if r.owner ≠ some p ∧ r.isContributor p = false ∧ r.policies.readerPolicy = .privateAccess then
           s.answered p f .notAuthorised []
         else (s.setAcc x.acc (some (r.setReader p
             (some { cursor := cursor, notify := x.notify, format := x.format })))).answered p f .ok
           (wordBytes 6 cursor ++ wordBytes 6 r.openSequence))) ∧
    ∀ a : AccIx, s.Asks p .unsubscribe f → f.payload = [byte a.val] →
      (s.acc a = none → exec (.unsubscribe p) s = .next (s.answered p f .gone [])) ∧
      ∀ r, s.acc a = some r →
        let left := s.setAcc a (some (r.setReader p none))
        exec (.unsubscribe p) s = .next
        (if r.reader p = none then s.answered p f .notSubscribed []
         else if r.owner = some p ∨ r.isContributor p = true then left.answered p f .ok []
         else ((left.posted (s.detachNotices a (· == p) .accessLost)).withMonitors
             (s.detachedMonitors a (· == p))).answered p f .ok [])

/-! ### The engine -/

/-- R49, R52, R53: ACCUMULATE, LOAD, CLOSE_WINDOW and FENCE append a job at the tail of the port's job queue, with its
reservation kept; while the queue holds 4 jobs the request waits, held by the decoder (log entry 8); with nothing queued
and nothing running the job is granted at once (log entry 5). -/
def Obligations.JobRequestsQueueJobs : Prop :=
  ∀ (p : Port) (s : State) (f : Frame) (w : Work),
    let job : Job := { tag := f.tag, port := p, session := (s.session p).number, work := w, mark := .none }
    let outcome : Host.Outcome State Fault Refusal := .next
      (if 4 ≤ (s.jobs p).length then s.held p
       else if s.running = none ∧ ∀ q, s.jobs q = [] then ((s.popped p).setRunning (some job)).setPointer p
       else (s.popped p).setJobs p (s.jobs p ++ [job]))
    (∀ a pairs negate target, w = .accumulate a pairs negate target → 1 ≤ pairs.length → pairs.length ≤ 16 →
      s.Asks p .accumulate f → f.payload = w.sent → exec (.accumulate p) s = outcome) ∧
    (∀ a value target, w = .load a value target → s.Asks p .load f → f.payload = w.sent →
      exec (.load p) s = outcome) ∧
    (∀ a, w = .close a → s.Asks p .closeWindow f → f.payload = w.sent → exec (.closeWindow p) s = outcome) ∧
    (w = .fence → s.Asks p .fence f → f.payload = w.sent → exec (.fence p) s = outcome)

/-- R53: with the engine IDLE, GRANT takes the head job of the first non-empty queue in the rotation that begins after the
grant pointer and ends with it; BUSY, or with no job queued, there is no grant, and the command changes nothing (the model's choice, log entry 1). -/
def Obligations.GrantRotates : Prop :=
  ∀ s : State,
    (∀ (k : Fin 4) (j : Job) (rest : List Job), s.running = none → s.jobs (s.grantPointer + 1 + k) = j :: rest →
      (∀ i : Fin 4, i < k → s.jobs (s.grantPointer + 1 + i) = []) →
      exec .grant s = .next (((s.setJobs (s.grantPointer + 1 + k) rest).setRunning (some j)).setPointer
        (s.grantPointer + 1 + k))) ∧
    ((s.running ≠ none ∨ ∀ p, s.jobs p = []) → exec .grant s = .next s)

/-- R60 to R66: the tests at completion, in their order: no trace, CANCELLED, OK of a FENCE, GONE, NOT_AUTHORISED,
WINDOW_PASSED or WINDOW_NOT_OPEN. In each the job is gone, the engine IDLE and no accumulator touched. With no running job
the command changes nothing (the model's choice, log entry 1). -/
def Obligations.CompletionTestsInOrder : Prop :=
  (∀ s : State, s.running = none → exec .jobCompletion s = .next s) ∧
  ∀ (s : State) (j : Job), s.running = some j →
    let idle := s.setRunning none
    let current : Prop := (s.session j.port).isOpen = true ∧ (s.session j.port).number = j.session
    (j.mark = .discard ∨ ¬ current → exec .jobCompletion s = .next idle) ∧
    (current → j.mark = .cancel →
      exec .jobCompletion s = .next (idle.responded j.port j.tag .cancelled [])) ∧
    (current → j.mark = .none → j.work = .fence →
      exec .jobCompletion s = .next (idle.responded j.port j.tag .ok [])) ∧
    (∀ a, current → j.mark = .none → j.work.acc? = some a → s.acc a = none →
      exec .jobCompletion s = .next (idle.responded j.port j.tag .gone [])) ∧
    ∀ a r, current → j.mark = .none → j.work.acc? = some a → s.acc a = some r →
      let may := r.owner = some j.port ∨
        (r.isContributor j.port = true ∧ ∃ pairs negate target, j.work = .accumulate a pairs negate target)
      (¬ may → exec .jobCompletion s = .next (idle.responded j.port j.tag .notAuthorised [])) ∧
      ∀ w, may → j.work.target? = some w →
        (w.toNat < r.openSequence.toNat → exec .jobCompletion s = .next
          (idle.responded j.port j.tag .windowPassed (wordBytes 6 r.openSequence))) ∧
        (r.openSequence.toNat < w.toNat → exec .jobCompletion s = .next
          (idle.responded j.port j.tag .windowNotOpen (wordBytes 6 r.openSequence)))

/-- R12 to R15, R17, R67: an ACCUMULATE that passes the tests adds the exact sum of its products, negated under NEGATE, to
the live value, clamped to 72 bits with the saturated flag set, adds its pairs to the count up to 2^32 − 1, hands the new
live value to the monitors, and is answered with the open sequence, the count and the saturated flag. -/
def Obligations.AccumulateAddsTheExactPartial : Prop :=
  ∀ (s : State) (j : Job) (a : AccIx) (r : Accumulator) (pairs : List (Word32 × Word32)) (negate : Bool)
    (target : Option Sequence) (live : Wide) (count : Word32),
    s.running = some j → j.mark = .none → (s.session j.port).isOpen = true → (s.session j.port).number = j.session →
    j.work = .accumulate a pairs negate target → s.acc a = some r →
    (r.owner = some j.port ∨ r.isContributor j.port = true) → (target = none ∨ target = some r.openSequence) →
    let read : Word32 → Int := fun x => match r.policies.mode with | .signed => x.toInt | .unsigned => (x.toNat : Int)
    let total := (pairs.map fun x => read x.1 * read x.2).sum
    let sum := r.live.toInt + if negate then -total else total
    live.toInt = max (-(2 ^ 71)) (min (2 ^ 71 - 1) sum) → count.toNat = min (2 ^ 32 - 1) (r.count.toNat + pairs.length) →
    let saturated := r.saturated || !decide (-(2 ^ 71) ≤ sum ∧ sum ≤ 2 ^ 71 - 1)
    exec .jobCompletion s = .next ((((s.setRunning none).setAcc a (some { r with
        live := live, count := count, saturated := saturated })).evaluate a live none).responded j.port j.tag .ok
      (wordBytes 6 r.openSequence ++ wordBytes 4 count ++ [if saturated then 0x01 else 0x00]))

/-- R16, R21, R22, R67: a LOAD of the owner sets the live value to its sign-extended value and clears saturated; a CLOSE of
the owner closes the window with cause MANUAL and is answered with the window closed, or, at sequence 2^48 − 1, with
SEQUENCE_LIMIT. -/
def Obligations.LoadAndCloseJobsApply : Prop :=
  ∀ (s : State) (j : Job) (a : AccIx) (r : Accumulator),
    s.running = some j → j.mark = .none → (s.session j.port).isOpen = true → (s.session j.port).number = j.session →
    s.acc a = some r → r.owner = some j.port →
    (∀ (v : Word64) (target : Option Sequence) (live : Wide), j.work = .load a v target →
      (target = none ∨ target = some r.openSequence) → live.toInt = v.toInt →
      exec .jobCompletion s = .next ((((s.setRunning none).setAcc a (some { r with
          live := live, saturated := false })).evaluate a live none).responded j.port j.tag .ok
        (wordBytes 6 r.openSequence ++ wordBytes 4 r.count ++ [0x00]))) ∧
    (j.work = .close a → exec .jobCompletion s = .next
      (if r.openSequence.toNat = 2 ^ 48 - 1 then (s.setRunning none).responded j.port j.tag .sequenceLimit []
       else ((s.setRunning none).closeWindow a r .manual s.tick).responded j.port j.tag .ok
        (wordBytes 6 r.openSequence ++ wordBytes 4 r.count ++ [if r.saturated then 0x01 else 0x00])))

/-- R18 to R20, R101: a close appends the record of the window to the ring, whose oldest records make room, opens the next
window, posts WINDOW_CLOSED to the readers that asked for it and hands the new live value and the recorded value to the
monitors. -/
def Obligations.CloseRecordsTheWindow : Prop :=
  ∀ (s : State) (a : AccIx) (r : Accumulator) (cause : Cause) (tick : Word32), r.HistoryFits →
    let record : ClosedRecord := { sequence := r.openSequence, value := r.live, count := r.count,
                                   saturated := r.saturated, cause := cause, tick := tick }
    let live := match r.policies.closeAction with | .clear => 0 | .carry => r.live
    s.closeWindow a r cause tick = ((s.setAcc a (some { r with
        live := live, count := 0, saturated := false, openSequence := r.openSequence + 1
        ring := (r.ring ++ [record]).drop (r.ring.length + 1 - r.depth) })).posted
      (toEach (fun q => (r.reader q).any (·.notify))
        ⟨.windowClosed a r.openSequence (decide (cause = .manual)), tick⟩)).evaluate a live (some r.live)

/-- R70, R74: JOB_CANCEL marks the running job of the port with that tag and the current session CANCEL, or else removes the
oldest such job from the port's queue and queues its CANCELLED before its own OK; with no such job it is answered
NOT_FOUND. That a job marked DISCARD is not found, whatever its session number, is the model's (DEDUCED from R74, log
entry 10). -/
def Obligations.JobCancelTakesTheOldest : Prop :=
  ∀ (p : Port) (s : State) (f : Frame) (tag : Byte), s.Asks p .jobCancel f → f.payload = [tag] →
    let fits : Job → Prop := fun j =>
      j.port = p ∧ j.tag = tag ∧ j.session = (s.session p).number ∧ j.mark ≠ .discard
    (∀ j, s.running = some j → fits j → exec (.jobCancel p) s = .next
      ((s.setRunning (some { j with mark := .cancel })).answered p f .ok [])) ∧
    ((∀ j, s.running = some j → ¬ fits j) →
      (∀ newer j older, s.jobs p = older ++ j :: newer → fits j → (∀ x ∈ older, ¬ fits x) →
        exec (.jobCancel p) s = .next
          (((s.setJobs p (older ++ newer)).responded p tag .cancelled []).answered p f .ok [])) ∧
      ((∀ x ∈ s.jobs p, ¬ fits x) → exec (.jobCancel p) s = .next (s.answered p f .notFound [])))

/-! ### Reading -/

/-- R117 to R119, R193: the shift rounds toward −∞, or to the nearest with halves to the greater; then the width wraps or
clamps, CLAMPED only where a clamp was made, and RAW gives the shifted value. The presented value is sent in w/8 bytes,
most significant first, as its w-bit two's complement. A field of n bytes holds its number most significant byte first
(R189). -/
def Obligations.PresentedValueIsExact : Prop :=
  (∀ n v i : Nat, (beBytes n v)[i]? = if i < n then some (byte (v / 256 ^ (n - 1 - i))) else none) ∧
  (∀ (n w : Nat) (x : BitVec w), wordBytes n x = beBytes n x.toNat) ∧
  beNat [] = 0 ∧ (∀ (l : List Byte) (b : Byte), beNat (l ++ [b]) = 256 * beNat l + b.toNat) ∧
  ∀ (f : ReadFormat) (v : Wide),
    (∀ x : Int,
      let k := f.shift.val
      let added : Int := if k ≠ 0 ∧ f.rounding = .nearest then 2 ^ (k - 1) else 0
      x * 2 ^ k ≤ v.toInt + added → v.toInt + added < (x + 1) * 2 ^ k →
      -(2 ^ 71) ≤ x ∧ x < 2 ^ 71 ∧
      (f.width = .raw → f.present v = x ∧ f.clamped v = false) ∧
      ∀ w : Nat, (f.width = .w16 ∧ w = 16 ∨ f.width = .w32 ∧ w = 32 ∨ f.width = .w64 ∧ w = 64) →
        (-(2 ^ (w - 1)) ≤ x → x ≤ 2 ^ (w - 1) - 1 → f.present v = x ∧ f.clamped v = false) ∧
        (f.limit = .clamp → 2 ^ (w - 1) - 1 < x → f.present v = 2 ^ (w - 1) - 1 ∧ f.clamped v = true) ∧
        (f.limit = .clamp → x < -(2 ^ (w - 1)) → f.present v = -(2 ^ (w - 1)) ∧ f.clamped v = true) ∧
        (f.limit = .wrap → (2 : Int) ^ w ∣ f.present v - x ∧ -(2 ^ (w - 1)) ≤ f.present v ∧
          f.present v ≤ 2 ^ (w - 1) - 1 ∧ f.clamped v = false)) ∧
    (presentedBytes f v).length = f.width.bits / 8 ∧
    (BitVec.ofNat f.width.bits (beNat (presentedBytes f v))).toInt = f.present v

/-- R120, R122, R123: READ_LIVE is answered with the value under the request's format, else the reader's default, else RAW,
with the saturated flag, open sequence and count, and changes nothing. -/
def Obligations.ReadLiveReportsTheRecord : Prop :=
  ∀ (p : Port) (s : State) (f : Frame) (a : AccIx) (asked : Option ReadFormat), s.Asks p .readLive f →
    f.payload = byte a.val :: sentFormat asked →
    (s.acc a = none → exec (.readLive p) s = .next (s.answered p f .gone [])) ∧
    ∀ r, s.acc a = some r →
      let format := asked.getD (((r.reader p).map (·.format)).getD
        { shift := 0, rounding := .truncate, width := .raw, limit := .wrap })
      exec (.readLive p) s = .next
        (if r.owner = some p ∨ r.isContributor p = true ∨ (r.reader p).isSome = true then
          s.answered p f .ok ([format.sentPresentation r.live, if r.saturated then 0x01 else 0x00] ++
            wordBytes 6 r.openSequence ++ wordBytes 4 r.count ++ presentedBytes format r.live)
         else s.answered p f .notAuthorised [])

/-- R104, R105: READ_HISTORY moves a cursor below the floor up to it and reports how many were missed, then returns the
records from the cursor upward, at most the maximum, and leaves the cursor after them. -/
def Obligations.ReadHistoryReturnsTheNextRecords : Prop :=
  ∀ (p : Port) (s : State) (f : Frame) (x : HistoryArgs), s.Asks p .readHistory f →
    1 ≤ x.maximum → x.maximum ≤ 4 → f.payload = x.sent →
    (s.acc x.acc = none → exec (.readHistory p) s = .next (s.answered p f .gone [])) ∧
    (∀ r, s.acc x.acc = some r → r.reader p = none →
      exec (.readHistory p) s = .next (s.answered p f .notSubscribed [])) ∧
    ∀ r e, s.acc x.acc = some r → r.reader p = some e → r.HistoryFits →
      let floor := r.openSequence.toNat - r.ring.length
      let start := max e.cursor.toNat floor
      let n := min x.maximum (r.openSequence.toNat - start)
      let records := r.ring.filter fun c => decide (start ≤ c.sequence.toNat ∧ c.sequence.toNat < start + n)
      records.length = n ∧
      exec (.readHistory p) s = .next ((s.setAcc x.acc (some (r.setReader p
          (some { e with cursor := BitVec.ofNat 48 (start + n) })))).answered p f .ok
        ([if e.cursor.toNat < floor then 0x01 else 0x00, byte n] ++ beBytes 6 (start - e.cursor.toNat) ++
          beBytes 6 (start + n) ++ wordBytes 6 r.openSequence ++
          records.flatMap (ClosedRecord.sent (x.format.getD e.format))))

/-- R107, R126: READ_RECORD returns the held record with the sequence requested, under the reader's default format or RAW,
and moves no cursor. -/
def Obligations.ReadRecordReturnsAHeldRecord : Prop :=
  ∀ (p : Port) (s : State) (f : Frame) (a : AccIx) (w : Sequence), s.Asks p .readRecord f →
    f.payload = byte a.val :: wordBytes 6 w →
    (s.acc a = none → exec (.readRecord p) s = .next (s.answered p f .gone [])) ∧
    ∀ r, s.acc a = some r →
      let access : Prop := r.owner = some p ∨ r.isContributor p = true ∨ (r.reader p).isSome = true
      (¬ access → exec (.readRecord p) s = .next (s.answered p f .notAuthorised [])) ∧
      (access → (∀ c ∈ r.ring, c.sequence ≠ w) → exec (.readRecord p) s = .next (s.answered p f .notHeld [])) ∧
      ∀ c ∈ r.ring, access → c.sequence = w → r.HistoryFits → exec (.readRecord p) s = .next
        (s.answered p f .ok (c.sent (((r.reader p).map (·.format)).getD
          { shift := 0, rounding := .truncate, width := .raw, limit := .wrap })))

/-- R108 to R110: HISTORY_RESIZE takes a growth from the pool or returns a reduction to it, sets the depth and keeps the
newest records that fit. -/
def Obligations.HistoryResizeMovesSlots : Prop :=
  ∀ (p : Port) (s : State) (f : Frame) (a : AccIx) (depth : Nat), s.Asks p .historyResize f →
    depth ≤ 32 → f.payload = [byte a.val, byte depth] →
    (s.acc a = none → exec (.historyResize p) s = .next (s.answered p f .gone [])) ∧
    ∀ r, s.acc a = some r → r.ring.length ≤ r.depth →
      let ring := r.ring.drop (r.ring.length - depth)
      let free := s.pool + r.depth - depth
      exec (.historyResize p) s = .next
        (if r.owner ≠ some p then s.answered p f .notOwner []
         else if s.pool + r.depth < depth then s.answered p f .noHistorySpace []
         else ((s.setPool free).setAcc a (some { r with depth := depth, ring := ring })).answered p f .ok
          ([byte depth, byte ring.length, if ring = [] then 0x00 else 0x01] ++
            wordBytes 6 ((ring.head?.map (·.sequence)).getD 0) ++ beBytes 2 free))

/-! ### Window groups -/

/-- R80, R84: GROUP_CLAIM makes the requester owner of an ownerless group; GROUP_RELEASE of the owner leaves it ownerless;
nothing else of the group changes. -/
def Obligations.GroupOwnershipIsClaimedAndReleased : Prop :=
  ∀ (p : Port) (s : State) (f : Frame) (g : GroupIx), f.payload = [byte g.val] → s.clockReady = true →
    (s.Asks p .groupClaim f → exec (.groupClaim p) s = .next
      (if (s.group g).owner = none then (s.setGroup g { s.group g with owner := some p }).answered p f .ok []
       else s.answered p f .alreadyOwned [])) ∧
    (s.Asks p .groupRelease f → exec (.groupRelease p) s = .next
      (if (s.group g).owner = some p then (s.setGroup g { s.group g with owner := none }).answered p f .ok []
       else s.answered p f .notOwner []))

/-- R81 to R83: GROUP_SET of the owner replaces the period of a STOPPED group; GROUP_START of the owner sets the countdown of
a STOPPED group to the phase, or to the period, and reports it with the tick counter; GROUP_STOP of the owner drops the
countdown and reports the one it held. -/
def Obligations.GroupScheduleIsSetStartedAndStopped : Prop :=
  ∀ (p : Port) (s : State) (f : Frame) (g : GroupIx), s.clockReady = true →
    (∀ period : Nat, s.Asks p .groupSet f → 1 ≤ period → period ≤ 65535 → f.payload = byte g.val :: beBytes 2 period →
      exec (.groupSet p) s = .next
        (if (s.group g).owner ≠ some p then s.answered p f .notOwner []
         else if (s.group g).countdown ≠ none then s.answered p f .busy []
         else (s.setGroup g { s.group g with period := period }).answered p f .ok [])) ∧
    (∀ phase : Option Nat, s.Asks p .groupStart f → (∀ n, phase = some n → 1 ≤ n ∧ n ≤ 65535) →
      f.payload = byte g.val :: (phase.map (beBytes 2)).getD [] →
      exec (.groupStart p) s = .next
        (if (s.group g).owner ≠ some p then s.answered p f .notOwner []
         else if (s.group g).countdown ≠ none then s.answered p f .busy []
         else if phase.any (fun n => decide ((s.group g).period < n)) then s.answered p f .badField []
         else (s.setGroup g { s.group g with countdown := some (phase.getD (s.group g).period) }).answered p f .ok
          (beBytes 2 (phase.getD (s.group g).period) ++ wordBytes 4 s.tick))) ∧
    (s.Asks p .groupStop f → f.payload = [byte g.val] →
      exec (.groupStop p) s = .next
        (if (s.group g).owner ≠ some p then s.answered p f .notOwner []
         else (s.setGroup g { s.group g with countdown := none }).answered p f .ok
          (((s.group g).countdown.map (beBytes 2)).getD [])))

/-! ### Monitors -/

/-- R130, R131: MON_CREATE by a port with access arms the FREE monitor with the lowest index, in region UNKNOWN. -/
def Obligations.MonCreateArmsTheLowestFree : Prop :=
  ∀ (p : Port) (s : State) (f : Frame) (a : AccIx) (c : MonitorConfig), s.Asks p .monCreate f →
    c.low.toInt ≤ c.high.toInt → 2 * (c.hysteresis.toNat : Int) ≤ c.high.toInt - c.low.toInt →
    f.payload = [byte a.val, c.sentByte] ++ c.sentBounds →
    (s.acc a = none → exec (.monCreate p) s = .next (s.answered p f .gone [])) ∧
    ∀ r, s.acc a = some r →
      let access : Prop := r.owner = some p ∨ r.isContributor p = true ∨ (r.reader p).isSome = true
      (¬ access → exec (.monCreate p) s = .next (s.answered p f .notAuthorised [])) ∧
      (access → (∀ m, (s.monitor m).isSome = true) →
        exec (.monCreate p) s = .next (s.answered p f .noMonitor [])) ∧
      ∀ m, access → s.monitor m = none → (∀ i, i < m → (s.monitor i).isSome = true) →
        exec (.monCreate p) s = .next ((s.setMonitor m (some
          { armed := true, owner := p, acc := a, config := c, region := .unknown })).answered p f .ok [byte m.val])

/-- R138, R140: MON_ATTACH of its owner re-arms a DETACHED monitor on the accumulator named, in region UNKNOWN; MON_FREE of
its owner makes the monitor FREE. -/
def Obligations.MonitorsAreRearmedAndFreed : Prop :=
  ∀ (p : Port) (s : State) (f : Frame) (i : MonIx),
    (∀ a : AccIx, s.Asks p .monAttach f → f.payload = [byte i.val, byte a.val] →
      (s.acc a = none → exec (.monAttach p) s = .next (s.answered p f .gone [])) ∧
      (∀ r, s.acc a = some r → s.monitor i = none → exec (.monAttach p) s = .next (s.answered p f .badState [])) ∧
      ∀ r m, s.acc a = some r → s.monitor i = some m → exec (.monAttach p) s = .next
        (if m.owner ≠ p then s.answered p f .notOwner []
         else if m.armed = true then s.answered p f .badState []
         else if r.owner = some p ∨ r.isContributor p = true ∨ (r.reader p).isSome = true then
           (s.setMonitor i (some { m with armed := true, acc := a, region := .unknown })).answered p f .ok []
         else s.answered p f .notAuthorised [])) ∧
    (s.Asks p .monFree f → f.payload = [byte i.val] →
      (s.monitor i = none → exec (.monFree p) s = .next (s.answered p f .badState [])) ∧
      ∀ m, s.monitor i = some m → exec (.monFree p) s = .next
        (if m.owner = p then (s.setMonitor i none).answered p f .ok [] else s.answered p f .notOwner []))

/-- R133: the region after an evaluation, by the region before it, the bounds and the hysteresis; an evaluation changes the
region and nothing else in the monitor record. -/
def Obligations.RegionFollowsTheTable : Prop :=
  ∀ (c : MonitorConfig) (before : Region) (v : Int), boundsDefined c.low c.high c.hysteresis = true →
    let low := c.low.toInt
    let high := c.high.toInt
    let h : Int := c.hysteresis.toNat
    let after := c.regionAfter before v
    (after = .above ↔ high < v ∨ (before = .above ∧ high - h < v)) ∧
    (after = .below ↔ v < low ∨ (before = .below ∧ v < low + h)) ∧
    (after = .inside ↔ low ≤ v ∧ v ≤ high ∧ (before = .above → v ≤ high - h) ∧ (before = .below → low + h ≤ v)) ∧
    after ≠ .unknown ∧
    ∀ (s : State) (i : MonIx) (m : Monitor), m.config = c → m.region = before →
      (s.judgeMonitor i m v).monitor i = some { m with region := after }

/-- R132, R134, R135: values handed over change the regions of the ARMED monitors of that accumulator and post THRESHOLD for
each reported change, in ascending order of index, and change nothing else. -/
def Obligations.EvaluationPostsReportedChanges : Prop :=
  ∀ (s : State) (a : AccIx) (live : Wide) (closed : Option Wide),
    s.evaluate a live closed =
      (s.posted (s.thresholdNotices a (s.acc a) live closed)).withMonitors (s.judgedMonitors a live closed) ∧
    ∀ (c : MonitorConfig) (r r' : Region), c.reports r r' = true ↔
      r ≠ r' ∧ ((r' = .inside ∧ r ≠ .unknown ∧ c.toInside = true) ∨ (r' = .above ∧ c.toAbove = true) ∨
        (r' = .below ∧ c.toBelow = true))

/-! ### Event queues -/

/-- R146, R147, R149: a post is appended with fewer than 15 records and no marker, begins a marker with count 1 at 15, and
otherwise adds to the marker's count up to 65535; a port whose session is CLOSED stores nothing. -/
def Obligations.PostsFollowTheQueueRule : Prop :=
  ∀ (s : State) (p : Port) (e : Event),
    let q := s.events p
    let x : EventRecord := ⟨e, s.tick⟩
    ((s.session p).isOpen = false → s.post p e = s) ∧
    ((s.session p).isOpen = true →
      ((∀ y ∈ q, y.isMarker = false) → q.length < 15 → s.post p e = s.setEvents p (q ++ [x])) ∧
      ((∀ y ∈ q, y.isMarker = false) → 15 ≤ q.length →
        s.post p e = s.setEvents p (q ++ [⟨.eventsLost 1, s.tick⟩])) ∧
      ∀ before n t, q = before ++ [⟨.eventsLost n, t⟩] →
        s.post p e = s.setEvents p (before ++ [⟨.eventsLost (min (n + 1) 65535), t⟩]))

/-- R150: EVENT_FETCH removes the oldest records, up to the maximum, and returns them with the number left; a maximum outside
1 to 8 is answered BAD_FIELD, and in CLOSED NO_SESSION. -/
def Obligations.EventFetchRemovesTheOldest : Prop :=
  ∀ (p : Port) (s : State) (f : Frame) (b : Byte), s.HeadIs p .eventFetch f → f.payload = [b] →
    ((s.session p).isOpen = false → (s.port p).holding = false →
      exec (.eventFetch p) s = .next (s.answered p f .noSession [])) ∧
    ((s.session p).isOpen = true → b.toNat = 0 ∨ 8 < b.toNat →
      exec (.eventFetch p) s = .next (s.answered p f .badField [])) ∧
    ∀ taken left : List EventRecord, (s.session p).isOpen = true → 1 ≤ b.toNat → b.toNat ≤ 8 →
      s.events p = taken ++ left → taken.length = min b.toNat (s.events p).length →
      exec (.eventFetch p) s = .next ((s.setEvents p left).answered p f .ok
        (byte taken.length :: byte left.length :: taken.flatMap EventRecord.sent))
end

