-- ==== Sys2Proof/Laws/State.lean ====
section
/-! SUPPORT. What each writer of the state leaves each reader: one lemma per reader and writer, true by `rfl`, and for the
tables the entry written and the entries beside it. -/

namespace Sys2Proof.Machine

/-! ### Tables -/

theorem entry_eq_getElem {α : Type} {n : Nat} (v : Vector α n) (i : Fin n) : entry v i = v[i.val] := rfl

@[simp] theorem entry_withEntry_self {α : Type} {n : Nat} (v : Vector α n) (i : Fin n) (x : α) :
    entry (withEntry v i x) i = x := by
  simp [entry_eq_getElem, withEntry]

theorem entry_withEntry_ne {α : Type} {n : Nat} (v : Vector α n) {i j : Fin n} (x : α) (h : j ≠ i) :
    entry (withEntry v i x) j = entry v j := by
  have h' : i.val ≠ j.val := fun e => h (Fin.ext e.symm)
  simpa [entry_eq_getElem, withEntry] using Vector.getElem_set_ne (xs := v) (x := x) i.isLt j.isLt h'

theorem entry_withEntry {α : Type} {n : Nat} (v : Vector α n) (i j : Fin n) (x : α) :
    entry (withEntry v i x) j = if j = i then x else entry v j := by
  split
  · next h => subst h; exact entry_withEntry_self v j x
  · next h => exact entry_withEntry_ne v x h

@[simp] theorem entry_replicate {α : Type} {n : Nat} (x : α) (i : Fin n) : entry (Vector.replicate n x) i = x := by
  simp [entry_eq_getElem]

@[simp] theorem entry_ofFn {α : Type} {n : Nat} (f : Fin n → α) (i : Fin n) : entry (Vector.ofFn f) i = f i := by
  simp [entry_eq_getElem]

@[simp] theorem entry_map {α β : Type} {n : Nat} (f : α → β) (v : Vector α n) (i : Fin n) :
    entry (v.map f) i = f (entry v i) := by
  simp [entry_eq_getElem]

/-- Two tables with the same entries are the same table. -/
theorem entry_ext {α : Type} {n : Nat} {v w : Vector α n} (h : ∀ i, entry v i = entry w i) : v = w := by
  ext i hi
  simpa [entry_eq_getElem] using h ⟨i, hi⟩

/-! ### What a writer leaves -/

@[simp] theorem State.setPending_pending (s : State) (l : List Instr) : (s.setPending l).pending = l := rfl
@[simp] theorem State.setPending_resetLow (s : State) (l : List Instr) : (s.setPending l).resetLow = s.resetLow := rfl
@[simp] theorem State.setPending_refclk (s : State) (l : List Instr) : (s.setPending l).refclk = s.refclk := rfl
@[simp] theorem State.setPending_tick (s : State) (l : List Instr) : (s.setPending l).tick = s.tick := rfl
@[simp] theorem State.setPending_pool (s : State) (l : List Instr) : (s.setPending l).pool = s.pool := rfl
@[simp] theorem State.setPending_running (s : State) (l : List Instr) : (s.setPending l).running = s.running := rfl
@[simp] theorem State.setPending_grantPointer (s : State) (l : List Instr) : (s.setPending l).grantPointer = s.grantPointer := rfl
@[simp] theorem State.setPending_acc (s : State) (l : List Instr) (k : AccIx) :
    (s.setPending l).acc k = s.acc k := rfl
@[simp] theorem State.setPending_claims (s : State) (l : List Instr) (k : AccIx) :
    (s.setPending l).claims k = s.claims k := rfl
@[simp] theorem State.setPending_group (s : State) (l : List Instr) (k : GroupIx) :
    (s.setPending l).group k = s.group k := rfl
@[simp] theorem State.setPending_notice (s : State) (l : List Instr) (k : GroupIx) :
    (s.setPending l).notice k = s.notice k := rfl
@[simp] theorem State.setPending_monitor (s : State) (l : List Instr) (k : MonIx) :
    (s.setPending l).monitor k = s.monitor k := rfl
@[simp] theorem State.setPending_jobs (s : State) (l : List Instr) (k : Port) :
    (s.setPending l).jobs k = s.jobs k := rfl
@[simp] theorem State.setPending_session (s : State) (l : List Instr) (k : Port) :
    (s.setPending l).session k = s.session k := rfl
@[simp] theorem State.setPending_port (s : State) (l : List Instr) (k : Port) :
    (s.setPending l).port k = s.port k := rfl
@[simp] theorem State.setPending_events (s : State) (l : List Instr) (k : Port) :
    (s.setPending l).events k = s.events k := rfl
@[simp] theorem State.setResetLow_pending (s : State) (b : Bool) : (s.setResetLow b).pending = s.pending := rfl
@[simp] theorem State.setResetLow_resetLow (s : State) (b : Bool) : (s.setResetLow b).resetLow = b := rfl
@[simp] theorem State.setResetLow_refclk (s : State) (b : Bool) : (s.setResetLow b).refclk = s.refclk := rfl
@[simp] theorem State.setResetLow_tick (s : State) (b : Bool) : (s.setResetLow b).tick = s.tick := rfl
@[simp] theorem State.setResetLow_pool (s : State) (b : Bool) : (s.setResetLow b).pool = s.pool := rfl
@[simp] theorem State.setResetLow_running (s : State) (b : Bool) : (s.setResetLow b).running = s.running := rfl
@[simp] theorem State.setResetLow_grantPointer (s : State) (b : Bool) : (s.setResetLow b).grantPointer = s.grantPointer := rfl
@[simp] theorem State.setResetLow_acc (s : State) (b : Bool) (k : AccIx) :
    (s.setResetLow b).acc k = s.acc k := rfl
@[simp] theorem State.setResetLow_claims (s : State) (b : Bool) (k : AccIx) :
    (s.setResetLow b).claims k = s.claims k := rfl
@[simp] theorem State.setResetLow_group (s : State) (b : Bool) (k : GroupIx) :
    (s.setResetLow b).group k = s.group k := rfl
@[simp] theorem State.setResetLow_notice (s : State) (b : Bool) (k : GroupIx) :
    (s.setResetLow b).notice k = s.notice k := rfl
@[simp] theorem State.setResetLow_monitor (s : State) (b : Bool) (k : MonIx) :
    (s.setResetLow b).monitor k = s.monitor k := rfl
@[simp] theorem State.setResetLow_jobs (s : State) (b : Bool) (k : Port) :
    (s.setResetLow b).jobs k = s.jobs k := rfl
@[simp] theorem State.setResetLow_session (s : State) (b : Bool) (k : Port) :
    (s.setResetLow b).session k = s.session k := rfl
@[simp] theorem State.setResetLow_port (s : State) (b : Bool) (k : Port) :
    (s.setResetLow b).port k = s.port k := rfl
@[simp] theorem State.setResetLow_events (s : State) (b : Bool) (k : Port) :
    (s.setResetLow b).events k = s.events k := rfl
@[simp] theorem State.setRefclk_pending (s : State) (c : BitVec 7) : (s.setRefclk c).pending = s.pending := rfl
@[simp] theorem State.setRefclk_resetLow (s : State) (c : BitVec 7) : (s.setRefclk c).resetLow = s.resetLow := rfl
@[simp] theorem State.setRefclk_refclk (s : State) (c : BitVec 7) : (s.setRefclk c).refclk = c := rfl
@[simp] theorem State.setRefclk_tick (s : State) (c : BitVec 7) : (s.setRefclk c).tick = s.tick := rfl
@[simp] theorem State.setRefclk_pool (s : State) (c : BitVec 7) : (s.setRefclk c).pool = s.pool := rfl
@[simp] theorem State.setRefclk_running (s : State) (c : BitVec 7) : (s.setRefclk c).running = s.running := rfl
@[simp] theorem State.setRefclk_grantPointer (s : State) (c : BitVec 7) : (s.setRefclk c).grantPointer = s.grantPointer := rfl
@[simp] theorem State.setRefclk_acc (s : State) (c : BitVec 7) (k : AccIx) :
    (s.setRefclk c).acc k = s.acc k := rfl
@[simp] theorem State.setRefclk_claims (s : State) (c : BitVec 7) (k : AccIx) :
    (s.setRefclk c).claims k = s.claims k := rfl
@[simp] theorem State.setRefclk_group (s : State) (c : BitVec 7) (k : GroupIx) :
    (s.setRefclk c).group k = s.group k := rfl
@[simp] theorem State.setRefclk_notice (s : State) (c : BitVec 7) (k : GroupIx) :
    (s.setRefclk c).notice k = s.notice k := rfl
@[simp] theorem State.setRefclk_monitor (s : State) (c : BitVec 7) (k : MonIx) :
    (s.setRefclk c).monitor k = s.monitor k := rfl
@[simp] theorem State.setRefclk_jobs (s : State) (c : BitVec 7) (k : Port) :
    (s.setRefclk c).jobs k = s.jobs k := rfl
@[simp] theorem State.setRefclk_session (s : State) (c : BitVec 7) (k : Port) :
    (s.setRefclk c).session k = s.session k := rfl
@[simp] theorem State.setRefclk_port (s : State) (c : BitVec 7) (k : Port) :
    (s.setRefclk c).port k = s.port k := rfl
@[simp] theorem State.setRefclk_events (s : State) (c : BitVec 7) (k : Port) :
    (s.setRefclk c).events k = s.events k := rfl
@[simp] theorem State.setTick_pending (s : State) (t : Word32) : (s.setTick t).pending = s.pending := rfl
@[simp] theorem State.setTick_resetLow (s : State) (t : Word32) : (s.setTick t).resetLow = s.resetLow := rfl
@[simp] theorem State.setTick_refclk (s : State) (t : Word32) : (s.setTick t).refclk = s.refclk := rfl
@[simp] theorem State.setTick_tick (s : State) (t : Word32) : (s.setTick t).tick = t := rfl
@[simp] theorem State.setTick_pool (s : State) (t : Word32) : (s.setTick t).pool = s.pool := rfl
@[simp] theorem State.setTick_running (s : State) (t : Word32) : (s.setTick t).running = s.running := rfl
@[simp] theorem State.setTick_grantPointer (s : State) (t : Word32) : (s.setTick t).grantPointer = s.grantPointer := rfl
@[simp] theorem State.setTick_acc (s : State) (t : Word32) (k : AccIx) :
    (s.setTick t).acc k = s.acc k := rfl
@[simp] theorem State.setTick_claims (s : State) (t : Word32) (k : AccIx) :
    (s.setTick t).claims k = s.claims k := rfl
@[simp] theorem State.setTick_group (s : State) (t : Word32) (k : GroupIx) :
    (s.setTick t).group k = s.group k := rfl
@[simp] theorem State.setTick_notice (s : State) (t : Word32) (k : GroupIx) :
    (s.setTick t).notice k = s.notice k := rfl
@[simp] theorem State.setTick_monitor (s : State) (t : Word32) (k : MonIx) :
    (s.setTick t).monitor k = s.monitor k := rfl
@[simp] theorem State.setTick_jobs (s : State) (t : Word32) (k : Port) :
    (s.setTick t).jobs k = s.jobs k := rfl
@[simp] theorem State.setTick_session (s : State) (t : Word32) (k : Port) :
    (s.setTick t).session k = s.session k := rfl
@[simp] theorem State.setTick_port (s : State) (t : Word32) (k : Port) :
    (s.setTick t).port k = s.port k := rfl
@[simp] theorem State.setTick_events (s : State) (t : Word32) (k : Port) :
    (s.setTick t).events k = s.events k := rfl
@[simp] theorem State.setPool_pending (s : State) (n : Nat) : (s.setPool n).pending = s.pending := rfl
@[simp] theorem State.setPool_resetLow (s : State) (n : Nat) : (s.setPool n).resetLow = s.resetLow := rfl
@[simp] theorem State.setPool_refclk (s : State) (n : Nat) : (s.setPool n).refclk = s.refclk := rfl
@[simp] theorem State.setPool_tick (s : State) (n : Nat) : (s.setPool n).tick = s.tick := rfl
@[simp] theorem State.setPool_pool (s : State) (n : Nat) : (s.setPool n).pool = n := rfl
@[simp] theorem State.setPool_running (s : State) (n : Nat) : (s.setPool n).running = s.running := rfl
@[simp] theorem State.setPool_grantPointer (s : State) (n : Nat) : (s.setPool n).grantPointer = s.grantPointer := rfl
@[simp] theorem State.setPool_acc (s : State) (n : Nat) (k : AccIx) :
    (s.setPool n).acc k = s.acc k := rfl
@[simp] theorem State.setPool_claims (s : State) (n : Nat) (k : AccIx) :
    (s.setPool n).claims k = s.claims k := rfl
@[simp] theorem State.setPool_group (s : State) (n : Nat) (k : GroupIx) :
    (s.setPool n).group k = s.group k := rfl
@[simp] theorem State.setPool_notice (s : State) (n : Nat) (k : GroupIx) :
    (s.setPool n).notice k = s.notice k := rfl
@[simp] theorem State.setPool_monitor (s : State) (n : Nat) (k : MonIx) :
    (s.setPool n).monitor k = s.monitor k := rfl
@[simp] theorem State.setPool_jobs (s : State) (n : Nat) (k : Port) :
    (s.setPool n).jobs k = s.jobs k := rfl
@[simp] theorem State.setPool_session (s : State) (n : Nat) (k : Port) :
    (s.setPool n).session k = s.session k := rfl
@[simp] theorem State.setPool_port (s : State) (n : Nat) (k : Port) :
    (s.setPool n).port k = s.port k := rfl
@[simp] theorem State.setPool_events (s : State) (n : Nat) (k : Port) :
    (s.setPool n).events k = s.events k := rfl
@[simp] theorem State.setRunning_pending (s : State) (j : Option Job) : (s.setRunning j).pending = s.pending := rfl
@[simp] theorem State.setRunning_resetLow (s : State) (j : Option Job) : (s.setRunning j).resetLow = s.resetLow := rfl
@[simp] theorem State.setRunning_refclk (s : State) (j : Option Job) : (s.setRunning j).refclk = s.refclk := rfl
@[simp] theorem State.setRunning_tick (s : State) (j : Option Job) : (s.setRunning j).tick = s.tick := rfl
@[simp] theorem State.setRunning_pool (s : State) (j : Option Job) : (s.setRunning j).pool = s.pool := rfl
@[simp] theorem State.setRunning_running (s : State) (j : Option Job) : (s.setRunning j).running = j := rfl
@[simp] theorem State.setRunning_grantPointer (s : State) (j : Option Job) : (s.setRunning j).grantPointer = s.grantPointer := rfl
@[simp] theorem State.setRunning_acc (s : State) (j : Option Job) (k : AccIx) :
    (s.setRunning j).acc k = s.acc k := rfl
@[simp] theorem State.setRunning_claims (s : State) (j : Option Job) (k : AccIx) :
    (s.setRunning j).claims k = s.claims k := rfl
@[simp] theorem State.setRunning_group (s : State) (j : Option Job) (k : GroupIx) :
    (s.setRunning j).group k = s.group k := rfl
@[simp] theorem State.setRunning_notice (s : State) (j : Option Job) (k : GroupIx) :
    (s.setRunning j).notice k = s.notice k := rfl
@[simp] theorem State.setRunning_monitor (s : State) (j : Option Job) (k : MonIx) :
    (s.setRunning j).monitor k = s.monitor k := rfl
@[simp] theorem State.setRunning_jobs (s : State) (j : Option Job) (k : Port) :
    (s.setRunning j).jobs k = s.jobs k := rfl
@[simp] theorem State.setRunning_session (s : State) (j : Option Job) (k : Port) :
    (s.setRunning j).session k = s.session k := rfl
@[simp] theorem State.setRunning_port (s : State) (j : Option Job) (k : Port) :
    (s.setRunning j).port k = s.port k := rfl
@[simp] theorem State.setRunning_events (s : State) (j : Option Job) (k : Port) :
    (s.setRunning j).events k = s.events k := rfl
@[simp] theorem State.setPointer_pending (s : State) (q : Port) : (s.setPointer q).pending = s.pending := rfl
@[simp] theorem State.setPointer_resetLow (s : State) (q : Port) : (s.setPointer q).resetLow = s.resetLow := rfl
@[simp] theorem State.setPointer_refclk (s : State) (q : Port) : (s.setPointer q).refclk = s.refclk := rfl
@[simp] theorem State.setPointer_tick (s : State) (q : Port) : (s.setPointer q).tick = s.tick := rfl
@[simp] theorem State.setPointer_pool (s : State) (q : Port) : (s.setPointer q).pool = s.pool := rfl
@[simp] theorem State.setPointer_running (s : State) (q : Port) : (s.setPointer q).running = s.running := rfl
@[simp] theorem State.setPointer_grantPointer (s : State) (q : Port) : (s.setPointer q).grantPointer = q := rfl
@[simp] theorem State.setPointer_acc (s : State) (q : Port) (k : AccIx) :
    (s.setPointer q).acc k = s.acc k := rfl
@[simp] theorem State.setPointer_claims (s : State) (q : Port) (k : AccIx) :
    (s.setPointer q).claims k = s.claims k := rfl
@[simp] theorem State.setPointer_group (s : State) (q : Port) (k : GroupIx) :
    (s.setPointer q).group k = s.group k := rfl
@[simp] theorem State.setPointer_notice (s : State) (q : Port) (k : GroupIx) :
    (s.setPointer q).notice k = s.notice k := rfl
@[simp] theorem State.setPointer_monitor (s : State) (q : Port) (k : MonIx) :
    (s.setPointer q).monitor k = s.monitor k := rfl
@[simp] theorem State.setPointer_jobs (s : State) (q : Port) (k : Port) :
    (s.setPointer q).jobs k = s.jobs k := rfl
@[simp] theorem State.setPointer_session (s : State) (q : Port) (k : Port) :
    (s.setPointer q).session k = s.session k := rfl
@[simp] theorem State.setPointer_port (s : State) (q : Port) (k : Port) :
    (s.setPointer q).port k = s.port k := rfl
@[simp] theorem State.setPointer_events (s : State) (q : Port) (k : Port) :
    (s.setPointer q).events k = s.events k := rfl
@[simp] theorem State.setAcc_pending (s : State) (i : AccIx) (x : Option Accumulator) : (s.setAcc i x).pending = s.pending := rfl
@[simp] theorem State.setAcc_resetLow (s : State) (i : AccIx) (x : Option Accumulator) : (s.setAcc i x).resetLow = s.resetLow := rfl
@[simp] theorem State.setAcc_refclk (s : State) (i : AccIx) (x : Option Accumulator) : (s.setAcc i x).refclk = s.refclk := rfl
@[simp] theorem State.setAcc_tick (s : State) (i : AccIx) (x : Option Accumulator) : (s.setAcc i x).tick = s.tick := rfl
@[simp] theorem State.setAcc_pool (s : State) (i : AccIx) (x : Option Accumulator) : (s.setAcc i x).pool = s.pool := rfl
@[simp] theorem State.setAcc_running (s : State) (i : AccIx) (x : Option Accumulator) : (s.setAcc i x).running = s.running := rfl
@[simp] theorem State.setAcc_grantPointer (s : State) (i : AccIx) (x : Option Accumulator) : (s.setAcc i x).grantPointer = s.grantPointer := rfl
@[simp] theorem State.setAcc_acc_self (s : State) (i : AccIx) (x : Option Accumulator) : (s.setAcc i x).acc i = x :=
  entry_withEntry_self _ _ _
theorem State.setAcc_acc_ne (s : State) {i k : AccIx} (x : Option Accumulator) (h : k ≠ i) :
    (s.setAcc i x).acc k = s.acc k := entry_withEntry_ne _ _ h
theorem State.setAcc_acc (s : State) (i k : AccIx) (x : Option Accumulator) :
    (s.setAcc i x).acc k = if k = i then x else s.acc k := entry_withEntry _ _ _ _
@[simp] theorem State.setAcc_claims (s : State) (i : AccIx) (x : Option Accumulator) (k : AccIx) :
    (s.setAcc i x).claims k = s.claims k := rfl
@[simp] theorem State.setAcc_group (s : State) (i : AccIx) (x : Option Accumulator) (k : GroupIx) :
    (s.setAcc i x).group k = s.group k := rfl
@[simp] theorem State.setAcc_notice (s : State) (i : AccIx) (x : Option Accumulator) (k : GroupIx) :
    (s.setAcc i x).notice k = s.notice k := rfl
@[simp] theorem State.setAcc_monitor (s : State) (i : AccIx) (x : Option Accumulator) (k : MonIx) :
    (s.setAcc i x).monitor k = s.monitor k := rfl
@[simp] theorem State.setAcc_jobs (s : State) (i : AccIx) (x : Option Accumulator) (k : Port) :
    (s.setAcc i x).jobs k = s.jobs k := rfl
@[simp] theorem State.setAcc_session (s : State) (i : AccIx) (x : Option Accumulator) (k : Port) :
    (s.setAcc i x).session k = s.session k := rfl
@[simp] theorem State.setAcc_port (s : State) (i : AccIx) (x : Option Accumulator) (k : Port) :
    (s.setAcc i x).port k = s.port k := rfl
@[simp] theorem State.setAcc_events (s : State) (i : AccIx) (x : Option Accumulator) (k : Port) :
    (s.setAcc i x).events k = s.events k := rfl
@[simp] theorem State.setClaims_pending (s : State) (i : AccIx) (x : List Boundary) : (s.setClaims i x).pending = s.pending := rfl
@[simp] theorem State.setClaims_resetLow (s : State) (i : AccIx) (x : List Boundary) : (s.setClaims i x).resetLow = s.resetLow := rfl
@[simp] theorem State.setClaims_refclk (s : State) (i : AccIx) (x : List Boundary) : (s.setClaims i x).refclk = s.refclk := rfl
@[simp] theorem State.setClaims_tick (s : State) (i : AccIx) (x : List Boundary) : (s.setClaims i x).tick = s.tick := rfl
@[simp] theorem State.setClaims_pool (s : State) (i : AccIx) (x : List Boundary) : (s.setClaims i x).pool = s.pool := rfl
@[simp] theorem State.setClaims_running (s : State) (i : AccIx) (x : List Boundary) : (s.setClaims i x).running = s.running := rfl
@[simp] theorem State.setClaims_grantPointer (s : State) (i : AccIx) (x : List Boundary) : (s.setClaims i x).grantPointer = s.grantPointer := rfl
@[simp] theorem State.setClaims_acc (s : State) (i : AccIx) (x : List Boundary) (k : AccIx) :
    (s.setClaims i x).acc k = s.acc k := rfl
@[simp] theorem State.setClaims_claims_self (s : State) (i : AccIx) (x : List Boundary) : (s.setClaims i x).claims i = x :=
  entry_withEntry_self _ _ _
theorem State.setClaims_claims_ne (s : State) {i k : AccIx} (x : List Boundary) (h : k ≠ i) :
    (s.setClaims i x).claims k = s.claims k := entry_withEntry_ne _ _ h
theorem State.setClaims_claims (s : State) (i k : AccIx) (x : List Boundary) :
    (s.setClaims i x).claims k = if k = i then x else s.claims k := entry_withEntry _ _ _ _
@[simp] theorem State.setClaims_group (s : State) (i : AccIx) (x : List Boundary) (k : GroupIx) :
    (s.setClaims i x).group k = s.group k := rfl
@[simp] theorem State.setClaims_notice (s : State) (i : AccIx) (x : List Boundary) (k : GroupIx) :
    (s.setClaims i x).notice k = s.notice k := rfl
@[simp] theorem State.setClaims_monitor (s : State) (i : AccIx) (x : List Boundary) (k : MonIx) :
    (s.setClaims i x).monitor k = s.monitor k := rfl
@[simp] theorem State.setClaims_jobs (s : State) (i : AccIx) (x : List Boundary) (k : Port) :
    (s.setClaims i x).jobs k = s.jobs k := rfl
@[simp] theorem State.setClaims_session (s : State) (i : AccIx) (x : List Boundary) (k : Port) :
    (s.setClaims i x).session k = s.session k := rfl
@[simp] theorem State.setClaims_port (s : State) (i : AccIx) (x : List Boundary) (k : Port) :
    (s.setClaims i x).port k = s.port k := rfl
@[simp] theorem State.setClaims_events (s : State) (i : AccIx) (x : List Boundary) (k : Port) :
    (s.setClaims i x).events k = s.events k := rfl
@[simp] theorem State.setGroup_pending (s : State) (i : GroupIx) (x : Group) : (s.setGroup i x).pending = s.pending := rfl
@[simp] theorem State.setGroup_resetLow (s : State) (i : GroupIx) (x : Group) : (s.setGroup i x).resetLow = s.resetLow := rfl
@[simp] theorem State.setGroup_refclk (s : State) (i : GroupIx) (x : Group) : (s.setGroup i x).refclk = s.refclk := rfl
@[simp] theorem State.setGroup_tick (s : State) (i : GroupIx) (x : Group) : (s.setGroup i x).tick = s.tick := rfl
@[simp] theorem State.setGroup_pool (s : State) (i : GroupIx) (x : Group) : (s.setGroup i x).pool = s.pool := rfl
@[simp] theorem State.setGroup_running (s : State) (i : GroupIx) (x : Group) : (s.setGroup i x).running = s.running := rfl
@[simp] theorem State.setGroup_grantPointer (s : State) (i : GroupIx) (x : Group) : (s.setGroup i x).grantPointer = s.grantPointer := rfl
@[simp] theorem State.setGroup_acc (s : State) (i : GroupIx) (x : Group) (k : AccIx) :
    (s.setGroup i x).acc k = s.acc k := rfl
@[simp] theorem State.setGroup_claims (s : State) (i : GroupIx) (x : Group) (k : AccIx) :
    (s.setGroup i x).claims k = s.claims k := rfl
@[simp] theorem State.setGroup_group_self (s : State) (i : GroupIx) (x : Group) : (s.setGroup i x).group i = x :=
  entry_withEntry_self _ _ _
theorem State.setGroup_group_ne (s : State) {i k : GroupIx} (x : Group) (h : k ≠ i) :
    (s.setGroup i x).group k = s.group k := entry_withEntry_ne _ _ h
theorem State.setGroup_group (s : State) (i k : GroupIx) (x : Group) :
    (s.setGroup i x).group k = if k = i then x else s.group k := entry_withEntry _ _ _ _
@[simp] theorem State.setGroup_notice (s : State) (i : GroupIx) (x : Group) (k : GroupIx) :
    (s.setGroup i x).notice k = s.notice k := rfl
@[simp] theorem State.setGroup_monitor (s : State) (i : GroupIx) (x : Group) (k : MonIx) :
    (s.setGroup i x).monitor k = s.monitor k := rfl
@[simp] theorem State.setGroup_jobs (s : State) (i : GroupIx) (x : Group) (k : Port) :
    (s.setGroup i x).jobs k = s.jobs k := rfl
@[simp] theorem State.setGroup_session (s : State) (i : GroupIx) (x : Group) (k : Port) :
    (s.setGroup i x).session k = s.session k := rfl
@[simp] theorem State.setGroup_port (s : State) (i : GroupIx) (x : Group) (k : Port) :
    (s.setGroup i x).port k = s.port k := rfl
@[simp] theorem State.setGroup_events (s : State) (i : GroupIx) (x : Group) (k : Port) :
    (s.setGroup i x).events k = s.events k := rfl
@[simp] theorem State.setNotice_pending (s : State) (i : GroupIx) (x : Option Boundary) : (s.setNotice i x).pending = s.pending := rfl
@[simp] theorem State.setNotice_resetLow (s : State) (i : GroupIx) (x : Option Boundary) : (s.setNotice i x).resetLow = s.resetLow := rfl
@[simp] theorem State.setNotice_refclk (s : State) (i : GroupIx) (x : Option Boundary) : (s.setNotice i x).refclk = s.refclk := rfl
@[simp] theorem State.setNotice_tick (s : State) (i : GroupIx) (x : Option Boundary) : (s.setNotice i x).tick = s.tick := rfl
@[simp] theorem State.setNotice_pool (s : State) (i : GroupIx) (x : Option Boundary) : (s.setNotice i x).pool = s.pool := rfl
@[simp] theorem State.setNotice_running (s : State) (i : GroupIx) (x : Option Boundary) : (s.setNotice i x).running = s.running := rfl
@[simp] theorem State.setNotice_grantPointer (s : State) (i : GroupIx) (x : Option Boundary) : (s.setNotice i x).grantPointer = s.grantPointer := rfl
@[simp] theorem State.setNotice_acc (s : State) (i : GroupIx) (x : Option Boundary) (k : AccIx) :
    (s.setNotice i x).acc k = s.acc k := rfl
@[simp] theorem State.setNotice_claims (s : State) (i : GroupIx) (x : Option Boundary) (k : AccIx) :
    (s.setNotice i x).claims k = s.claims k := rfl
@[simp] theorem State.setNotice_group (s : State) (i : GroupIx) (x : Option Boundary) (k : GroupIx) :
    (s.setNotice i x).group k = s.group k := rfl
@[simp] theorem State.setNotice_notice_self (s : State) (i : GroupIx) (x : Option Boundary) : (s.setNotice i x).notice i = x :=
  entry_withEntry_self _ _ _
theorem State.setNotice_notice_ne (s : State) {i k : GroupIx} (x : Option Boundary) (h : k ≠ i) :
    (s.setNotice i x).notice k = s.notice k := entry_withEntry_ne _ _ h
theorem State.setNotice_notice (s : State) (i k : GroupIx) (x : Option Boundary) :
    (s.setNotice i x).notice k = if k = i then x else s.notice k := entry_withEntry _ _ _ _
@[simp] theorem State.setNotice_monitor (s : State) (i : GroupIx) (x : Option Boundary) (k : MonIx) :
    (s.setNotice i x).monitor k = s.monitor k := rfl
@[simp] theorem State.setNotice_jobs (s : State) (i : GroupIx) (x : Option Boundary) (k : Port) :
    (s.setNotice i x).jobs k = s.jobs k := rfl
@[simp] theorem State.setNotice_session (s : State) (i : GroupIx) (x : Option Boundary) (k : Port) :
    (s.setNotice i x).session k = s.session k := rfl
@[simp] theorem State.setNotice_port (s : State) (i : GroupIx) (x : Option Boundary) (k : Port) :
    (s.setNotice i x).port k = s.port k := rfl
@[simp] theorem State.setNotice_events (s : State) (i : GroupIx) (x : Option Boundary) (k : Port) :
    (s.setNotice i x).events k = s.events k := rfl
@[simp] theorem State.setMonitor_pending (s : State) (i : MonIx) (x : Option Monitor) : (s.setMonitor i x).pending = s.pending := rfl
@[simp] theorem State.setMonitor_resetLow (s : State) (i : MonIx) (x : Option Monitor) : (s.setMonitor i x).resetLow = s.resetLow := rfl
@[simp] theorem State.setMonitor_refclk (s : State) (i : MonIx) (x : Option Monitor) : (s.setMonitor i x).refclk = s.refclk := rfl
@[simp] theorem State.setMonitor_tick (s : State) (i : MonIx) (x : Option Monitor) : (s.setMonitor i x).tick = s.tick := rfl
@[simp] theorem State.setMonitor_pool (s : State) (i : MonIx) (x : Option Monitor) : (s.setMonitor i x).pool = s.pool := rfl
@[simp] theorem State.setMonitor_running (s : State) (i : MonIx) (x : Option Monitor) : (s.setMonitor i x).running = s.running := rfl
@[simp] theorem State.setMonitor_grantPointer (s : State) (i : MonIx) (x : Option Monitor) : (s.setMonitor i x).grantPointer = s.grantPointer := rfl
@[simp] theorem State.setMonitor_acc (s : State) (i : MonIx) (x : Option Monitor) (k : AccIx) :
    (s.setMonitor i x).acc k = s.acc k := rfl
@[simp] theorem State.setMonitor_claims (s : State) (i : MonIx) (x : Option Monitor) (k : AccIx) :
    (s.setMonitor i x).claims k = s.claims k := rfl
@[simp] theorem State.setMonitor_group (s : State) (i : MonIx) (x : Option Monitor) (k : GroupIx) :
    (s.setMonitor i x).group k = s.group k := rfl
@[simp] theorem State.setMonitor_notice (s : State) (i : MonIx) (x : Option Monitor) (k : GroupIx) :
    (s.setMonitor i x).notice k = s.notice k := rfl
@[simp] theorem State.setMonitor_monitor_self (s : State) (i : MonIx) (x : Option Monitor) : (s.setMonitor i x).monitor i = x :=
  entry_withEntry_self _ _ _
theorem State.setMonitor_monitor_ne (s : State) {i k : MonIx} (x : Option Monitor) (h : k ≠ i) :
    (s.setMonitor i x).monitor k = s.monitor k := entry_withEntry_ne _ _ h
theorem State.setMonitor_monitor (s : State) (i k : MonIx) (x : Option Monitor) :
    (s.setMonitor i x).monitor k = if k = i then x else s.monitor k := entry_withEntry _ _ _ _
@[simp] theorem State.setMonitor_jobs (s : State) (i : MonIx) (x : Option Monitor) (k : Port) :
    (s.setMonitor i x).jobs k = s.jobs k := rfl
@[simp] theorem State.setMonitor_session (s : State) (i : MonIx) (x : Option Monitor) (k : Port) :
    (s.setMonitor i x).session k = s.session k := rfl
@[simp] theorem State.setMonitor_port (s : State) (i : MonIx) (x : Option Monitor) (k : Port) :
    (s.setMonitor i x).port k = s.port k := rfl
@[simp] theorem State.setMonitor_events (s : State) (i : MonIx) (x : Option Monitor) (k : Port) :
    (s.setMonitor i x).events k = s.events k := rfl
@[simp] theorem State.setJobs_pending (s : State) (i : Port) (x : List Job) : (s.setJobs i x).pending = s.pending := rfl
@[simp] theorem State.setJobs_resetLow (s : State) (i : Port) (x : List Job) : (s.setJobs i x).resetLow = s.resetLow := rfl
@[simp] theorem State.setJobs_refclk (s : State) (i : Port) (x : List Job) : (s.setJobs i x).refclk = s.refclk := rfl
@[simp] theorem State.setJobs_tick (s : State) (i : Port) (x : List Job) : (s.setJobs i x).tick = s.tick := rfl
@[simp] theorem State.setJobs_pool (s : State) (i : Port) (x : List Job) : (s.setJobs i x).pool = s.pool := rfl
@[simp] theorem State.setJobs_running (s : State) (i : Port) (x : List Job) : (s.setJobs i x).running = s.running := rfl
@[simp] theorem State.setJobs_grantPointer (s : State) (i : Port) (x : List Job) : (s.setJobs i x).grantPointer = s.grantPointer := rfl
@[simp] theorem State.setJobs_acc (s : State) (i : Port) (x : List Job) (k : AccIx) :
    (s.setJobs i x).acc k = s.acc k := rfl
@[simp] theorem State.setJobs_claims (s : State) (i : Port) (x : List Job) (k : AccIx) :
    (s.setJobs i x).claims k = s.claims k := rfl
@[simp] theorem State.setJobs_group (s : State) (i : Port) (x : List Job) (k : GroupIx) :
    (s.setJobs i x).group k = s.group k := rfl
@[simp] theorem State.setJobs_notice (s : State) (i : Port) (x : List Job) (k : GroupIx) :
    (s.setJobs i x).notice k = s.notice k := rfl
@[simp] theorem State.setJobs_monitor (s : State) (i : Port) (x : List Job) (k : MonIx) :
    (s.setJobs i x).monitor k = s.monitor k := rfl
@[simp] theorem State.setJobs_jobs_self (s : State) (i : Port) (x : List Job) : (s.setJobs i x).jobs i = x :=
  entry_withEntry_self _ _ _
theorem State.setJobs_jobs_ne (s : State) {i k : Port} (x : List Job) (h : k ≠ i) :
    (s.setJobs i x).jobs k = s.jobs k := entry_withEntry_ne _ _ h
theorem State.setJobs_jobs (s : State) (i k : Port) (x : List Job) :
    (s.setJobs i x).jobs k = if k = i then x else s.jobs k := entry_withEntry _ _ _ _
@[simp] theorem State.setJobs_session (s : State) (i : Port) (x : List Job) (k : Port) :
    (s.setJobs i x).session k = s.session k := rfl
@[simp] theorem State.setJobs_port (s : State) (i : Port) (x : List Job) (k : Port) :
    (s.setJobs i x).port k = s.port k := rfl
@[simp] theorem State.setJobs_events (s : State) (i : Port) (x : List Job) (k : Port) :
    (s.setJobs i x).events k = s.events k := rfl
@[simp] theorem State.setSession_pending (s : State) (i : Port) (x : Session) : (s.setSession i x).pending = s.pending := rfl
@[simp] theorem State.setSession_resetLow (s : State) (i : Port) (x : Session) : (s.setSession i x).resetLow = s.resetLow := rfl
@[simp] theorem State.setSession_refclk (s : State) (i : Port) (x : Session) : (s.setSession i x).refclk = s.refclk := rfl
@[simp] theorem State.setSession_tick (s : State) (i : Port) (x : Session) : (s.setSession i x).tick = s.tick := rfl
@[simp] theorem State.setSession_pool (s : State) (i : Port) (x : Session) : (s.setSession i x).pool = s.pool := rfl
@[simp] theorem State.setSession_running (s : State) (i : Port) (x : Session) : (s.setSession i x).running = s.running := rfl
@[simp] theorem State.setSession_grantPointer (s : State) (i : Port) (x : Session) : (s.setSession i x).grantPointer = s.grantPointer := rfl
@[simp] theorem State.setSession_acc (s : State) (i : Port) (x : Session) (k : AccIx) :
    (s.setSession i x).acc k = s.acc k := rfl
@[simp] theorem State.setSession_claims (s : State) (i : Port) (x : Session) (k : AccIx) :
    (s.setSession i x).claims k = s.claims k := rfl
@[simp] theorem State.setSession_group (s : State) (i : Port) (x : Session) (k : GroupIx) :
    (s.setSession i x).group k = s.group k := rfl
@[simp] theorem State.setSession_notice (s : State) (i : Port) (x : Session) (k : GroupIx) :
    (s.setSession i x).notice k = s.notice k := rfl
@[simp] theorem State.setSession_monitor (s : State) (i : Port) (x : Session) (k : MonIx) :
    (s.setSession i x).monitor k = s.monitor k := rfl
@[simp] theorem State.setSession_jobs (s : State) (i : Port) (x : Session) (k : Port) :
    (s.setSession i x).jobs k = s.jobs k := rfl
@[simp] theorem State.setSession_session_self (s : State) (i : Port) (x : Session) : (s.setSession i x).session i = x :=
  entry_withEntry_self _ _ _
theorem State.setSession_session_ne (s : State) {i k : Port} (x : Session) (h : k ≠ i) :
    (s.setSession i x).session k = s.session k := entry_withEntry_ne _ _ h
theorem State.setSession_session (s : State) (i k : Port) (x : Session) :
    (s.setSession i x).session k = if k = i then x else s.session k := entry_withEntry _ _ _ _
@[simp] theorem State.setSession_port (s : State) (i : Port) (x : Session) (k : Port) :
    (s.setSession i x).port k = s.port k := rfl
@[simp] theorem State.setSession_events (s : State) (i : Port) (x : Session) (k : Port) :
    (s.setSession i x).events k = s.events k := rfl
@[simp] theorem State.setPort_pending (s : State) (i : Port) (x : PortRecord) : (s.setPort i x).pending = s.pending := rfl
@[simp] theorem State.setPort_resetLow (s : State) (i : Port) (x : PortRecord) : (s.setPort i x).resetLow = s.resetLow := rfl
@[simp] theorem State.setPort_refclk (s : State) (i : Port) (x : PortRecord) : (s.setPort i x).refclk = s.refclk := rfl
@[simp] theorem State.setPort_tick (s : State) (i : Port) (x : PortRecord) : (s.setPort i x).tick = s.tick := rfl
@[simp] theorem State.setPort_pool (s : State) (i : Port) (x : PortRecord) : (s.setPort i x).pool = s.pool := rfl
@[simp] theorem State.setPort_running (s : State) (i : Port) (x : PortRecord) : (s.setPort i x).running = s.running := rfl
@[simp] theorem State.setPort_grantPointer (s : State) (i : Port) (x : PortRecord) : (s.setPort i x).grantPointer = s.grantPointer := rfl
@[simp] theorem State.setPort_acc (s : State) (i : Port) (x : PortRecord) (k : AccIx) :
    (s.setPort i x).acc k = s.acc k := rfl
@[simp] theorem State.setPort_claims (s : State) (i : Port) (x : PortRecord) (k : AccIx) :
    (s.setPort i x).claims k = s.claims k := rfl
@[simp] theorem State.setPort_group (s : State) (i : Port) (x : PortRecord) (k : GroupIx) :
    (s.setPort i x).group k = s.group k := rfl
@[simp] theorem State.setPort_notice (s : State) (i : Port) (x : PortRecord) (k : GroupIx) :
    (s.setPort i x).notice k = s.notice k := rfl
@[simp] theorem State.setPort_monitor (s : State) (i : Port) (x : PortRecord) (k : MonIx) :
    (s.setPort i x).monitor k = s.monitor k := rfl
@[simp] theorem State.setPort_jobs (s : State) (i : Port) (x : PortRecord) (k : Port) :
    (s.setPort i x).jobs k = s.jobs k := rfl
@[simp] theorem State.setPort_session (s : State) (i : Port) (x : PortRecord) (k : Port) :
    (s.setPort i x).session k = s.session k := rfl
@[simp] theorem State.setPort_port_self (s : State) (i : Port) (x : PortRecord) : (s.setPort i x).port i = x :=
  entry_withEntry_self _ _ _
theorem State.setPort_port_ne (s : State) {i k : Port} (x : PortRecord) (h : k ≠ i) :
    (s.setPort i x).port k = s.port k := entry_withEntry_ne _ _ h
theorem State.setPort_port (s : State) (i k : Port) (x : PortRecord) :
    (s.setPort i x).port k = if k = i then x else s.port k := entry_withEntry _ _ _ _
@[simp] theorem State.setPort_events (s : State) (i : Port) (x : PortRecord) (k : Port) :
    (s.setPort i x).events k = s.events k := rfl
@[simp] theorem State.setEvents_pending (s : State) (i : Port) (x : List EventRecord) : (s.setEvents i x).pending = s.pending := rfl
@[simp] theorem State.setEvents_resetLow (s : State) (i : Port) (x : List EventRecord) : (s.setEvents i x).resetLow = s.resetLow := rfl
@[simp] theorem State.setEvents_refclk (s : State) (i : Port) (x : List EventRecord) : (s.setEvents i x).refclk = s.refclk := rfl
@[simp] theorem State.setEvents_tick (s : State) (i : Port) (x : List EventRecord) : (s.setEvents i x).tick = s.tick := rfl
@[simp] theorem State.setEvents_pool (s : State) (i : Port) (x : List EventRecord) : (s.setEvents i x).pool = s.pool := rfl
@[simp] theorem State.setEvents_running (s : State) (i : Port) (x : List EventRecord) : (s.setEvents i x).running = s.running := rfl
@[simp] theorem State.setEvents_grantPointer (s : State) (i : Port) (x : List EventRecord) : (s.setEvents i x).grantPointer = s.grantPointer := rfl
@[simp] theorem State.setEvents_acc (s : State) (i : Port) (x : List EventRecord) (k : AccIx) :
    (s.setEvents i x).acc k = s.acc k := rfl
@[simp] theorem State.setEvents_claims (s : State) (i : Port) (x : List EventRecord) (k : AccIx) :
    (s.setEvents i x).claims k = s.claims k := rfl
@[simp] theorem State.setEvents_group (s : State) (i : Port) (x : List EventRecord) (k : GroupIx) :
    (s.setEvents i x).group k = s.group k := rfl
@[simp] theorem State.setEvents_notice (s : State) (i : Port) (x : List EventRecord) (k : GroupIx) :
    (s.setEvents i x).notice k = s.notice k := rfl
@[simp] theorem State.setEvents_monitor (s : State) (i : Port) (x : List EventRecord) (k : MonIx) :
    (s.setEvents i x).monitor k = s.monitor k := rfl
@[simp] theorem State.setEvents_jobs (s : State) (i : Port) (x : List EventRecord) (k : Port) :
    (s.setEvents i x).jobs k = s.jobs k := rfl
@[simp] theorem State.setEvents_session (s : State) (i : Port) (x : List EventRecord) (k : Port) :
    (s.setEvents i x).session k = s.session k := rfl
@[simp] theorem State.setEvents_port (s : State) (i : Port) (x : List EventRecord) (k : Port) :
    (s.setEvents i x).port k = s.port k := rfl
@[simp] theorem State.setEvents_events_self (s : State) (i : Port) (x : List EventRecord) : (s.setEvents i x).events i = x :=
  entry_withEntry_self _ _ _
theorem State.setEvents_events_ne (s : State) {i k : Port} (x : List EventRecord) (h : k ≠ i) :
    (s.setEvents i x).events k = s.events k := entry_withEntry_ne _ _ h
theorem State.setEvents_events (s : State) (i k : Port) (x : List EventRecord) :
    (s.setEvents i x).events k = if k = i then x else s.events k := entry_withEntry _ _ _ _

/-! ### Two states with the same readings -/

/-- Two states whose readers all agree are one state. -/
theorem State.ext_readers {s t : State} (h1 : s.pending = t.pending) (h2 : s.resetLow = t.resetLow)
    (h3 : s.refclk = t.refclk) (h4 : s.tick = t.tick) (h5 : s.pool = t.pool) (h6 : s.running = t.running)
    (h7 : s.grantPointer = t.grantPointer) (h8 : ∀ a, s.acc a = t.acc a) (h9 : ∀ a, s.claims a = t.claims a)
    (h10 : ∀ g, s.group g = t.group g) (h11 : ∀ g, s.notice g = t.notice g) (h12 : ∀ m, s.monitor m = t.monitor m)
    (h13 : ∀ p, s.jobs p = t.jobs p) (h14 : ∀ p, s.session p = t.session p) (h15 : ∀ p, s.port p = t.port p)
    (h16 : ∀ p, s.events p = t.events p) : s = t := by
  cases s; cases t
  simp only [State.mk.injEq]
  exact ⟨h1, h2, h3, h4, entry_ext h10, entry_ext h11, entry_ext h8, entry_ext h9, h5, entry_ext h12, entry_ext h13,
    h6, h7, entry_ext h14, entry_ext h15, entry_ext h16⟩

/-! ### Accumulator records -/

@[simp] theorem Accumulator.setContributor_isContributor_self (r : Accumulator) (p : Port) (b : Bool) :
    (r.setContributor p b).isContributor p = b := entry_withEntry_self _ _ _

theorem Accumulator.setContributor_isContributor (r : Accumulator) (p q : Port) (b : Bool) :
    (r.setContributor p b).isContributor q = if q = p then b else r.isContributor q := entry_withEntry _ _ _ _

@[simp] theorem Accumulator.setContributor_reader (r : Accumulator) (p q : Port) (b : Bool) :
    (r.setContributor p b).reader q = r.reader q := rfl

@[simp] theorem Accumulator.setContributor_owner (r : Accumulator) (p : Port) (b : Bool) :
    (r.setContributor p b).owner = r.owner := rfl

@[simp] theorem Accumulator.setReader_reader_self (r : Accumulator) (p : Port) (e : Option ReaderEntry) :
    (r.setReader p e).reader p = e := entry_withEntry_self _ _ _

theorem Accumulator.setReader_reader (r : Accumulator) (p q : Port) (e : Option ReaderEntry) :
    (r.setReader p e).reader q = if q = p then e else r.reader q := entry_withEntry _ _ _ _

@[simp] theorem Accumulator.setReader_isContributor (r : Accumulator) (p q : Port) (e : Option ReaderEntry) :
    (r.setReader p e).isContributor q = r.isContributor q := rfl

@[simp] theorem Accumulator.setReader_owner (r : Accumulator) (p : Port) (e : Option ReaderEntry) :
    (r.setReader p e).owner = r.owner := rfl

end Sys2Proof.Machine
end

