-- ==== Sys2Proof/Laws/Ops.lean ====
section
/-! SUPPORT. What each shared operation can do, said once: replies and the decoder's serving of a request, and the fields
that posting an event, judging monitors, detaching them, closing a window and releasing an accumulator can change. -/

namespace Sys2Proof.Machine

/-! ### Replies and the decoder -/

/-- Every reply a block forms: one reservation becomes a queued response (R183). -/
theorem State.reply_eq (s : State) (p : Port) (tag : Byte) (r : Reply) :
    s.reply p tag r = s.responded p tag r.status r.payload := by
  unfold State.reply State.respond State.updPort PortRecord.respond State.responded
  by_cases h : (s.port p).reservations = 0 <;> simp [h]
  rw [← h]

/-- Every answer of the decoder: the head request leaves its queue and its response carries no payload (R182). -/
theorem State.refuseHead_eq (s : State) (p : Port) (f : Frame) (st : Status) :
    s.refuseHead p f.tag st = s.answered p f st [] := by
  unfold State.refuseHead; rw [State.reply_eq]; rfl

/-- All that serving a head request of the kind can do (R181, R182). -/
theorem State.serve_eq {α : Type} {s : State} {p : Port} {k : Kind} {f : Frame} (operands : List Byte → Except Status α)
    (ready : State → α → Bool) (take : State → Byte → α → State) (h : s.HeadIs p k f) :
    s.serve p k operands ready take =
      if s.sessionRefuses p k then s.answered p f .noSession []
      else match operands f.payload with
        | .error st => s.answered p f st []
        | .ok x => if ready s x then take (s.popped p) f.tag x else s.held p := by
  obtain ⟨h1, h2⟩ := h
  unfold State.serve
  cases hq : (s.port p).requests with
  | nil => simp [hq] at h1
  | cons g rest =>
    simp [hq] at h1; subst h1
    simp only [h2, ne_eq, not_true_eq_false, if_false, State.refuseHead_eq]
    rfl

/-- A command whose request does not stand at the head is not taken. -/
theorem State.serve_of_ne {α : Type} {s : State} {p : Port} {k : Kind} (operands : List Byte → Except Status α)
    (ready : State → α → Bool) (take : State → Byte → α → State) (h : ∀ f, ¬ s.HeadIs p k f) :
    s.serve p k operands ready take = s := by
  unfold State.serve
  cases hq : (s.port p).requests with
  | nil => rfl
  | cons g rest =>
    have : g.kind ≠ k.code := fun e => h g ⟨by simp [hq], e⟩
    simp [this]

theorem State.sessionRefuses_open {s : State} {p : Port} (k : Kind) (h : (s.session p).isOpen = true) :
    s.sessionRefuses p k = false := by simp [State.sessionRefuses, h]

/-- Serving a request in OPEN whose payload passes the checks: taken by its block, or held (R181). -/
theorem State.serve_asks {α : Type} {s : State} {p : Port} {k : Kind} {f : Frame} {x : α}
    {operands : List Byte → Except Status α}
    (ready : State → α → Bool) (take : State → Byte → α → State) (h : s.Asks p k f) (hx : operands f.payload = .ok x) :
    s.serve p k operands ready take = if ready s x then take (s.popped p) f.tag x else s.held p := by
  rw [State.serve_eq _ _ _ h.1, State.sessionRefuses_open _ h.2]
  simp [hx]

/-- Serving a request that its block answers at once, in OPEN and with its payload checked. -/
theorem State.serveReply_asks {α : Type} {s : State} {p : Port} {k : Kind} {f : Frame} {x : α}
    {operands : List Byte → Except Status α}
    (ready : State → α → Bool) (take : State → α → State × Reply) (h : s.Asks p k f) (hx : operands f.payload = .ok x) :
    s.serveReply p k operands ready take = if ready s x then
      (take (s.popped p) x).1.responded p f.tag (take (s.popped p) x).2.status (take (s.popped p) x).2.payload else s.held p := by
  unfold State.serveReply
  rw [State.serve_asks _ _ h hx]
  simp only [State.reply_eq]

/-! ### Fields of one byte -/

@[simp] theorem accField_byte (a : AccIx) : accField (byte a.val) = some a := by revert a; decide

@[simp] theorem groupField_byte (g : GroupIx) : groupField (byte g.val) = some g := by revert g; decide

@[simp] theorem monField_byte (m : MonIx) : monField (byte m.val) = some m := by revert m; decide

@[simp] theorem portField_byte (p : Port) : portField (byte p.val) = some p := by revert p; decide

theorem accOperand_byte {l : List Byte} {a : AccIx} (h : l = [byte a.val]) : accOperand l = .ok a := by
  subst h; simp [accOperand, checkFields]

theorem groupOperand_byte {l : List Byte} {a : GroupIx} (h : l = [byte a.val]) : groupOperand l = .ok a := by
  subst h; simp [groupOperand, checkFields]

theorem monOperand_byte {l : List Byte} {a : MonIx} (h : l = [byte a.val]) : monOperand l = .ok a := by
  subst h; simp [monOperand, checkFields]

/-! ### What a popped request, a response and a held request leave -/

@[simp] theorem State.popped_acc (s : State) (p : Port) (a : AccIx) :
    (s.popped p).acc a = s.acc a := rfl

@[simp] theorem State.popped_claims (s : State) (p : Port) (a : AccIx) :
    (s.popped p).claims a = s.claims a := rfl

@[simp] theorem State.popped_group (s : State) (p : Port) (g : GroupIx) :
    (s.popped p).group g = s.group g := rfl

@[simp] theorem State.popped_notice (s : State) (p : Port) (g : GroupIx) :
    (s.popped p).notice g = s.notice g := rfl

@[simp] theorem State.popped_monitor (s : State) (p : Port) (m : MonIx) :
    (s.popped p).monitor m = s.monitor m := rfl

@[simp] theorem State.popped_jobs (s : State) (p : Port) (q : Port) :
    (s.popped p).jobs q = s.jobs q := rfl

@[simp] theorem State.popped_session (s : State) (p : Port) (q : Port) :
    (s.popped p).session q = s.session q := rfl

@[simp] theorem State.popped_events (s : State) (p : Port) (q : Port) :
    (s.popped p).events q = s.events q := rfl

@[simp] theorem State.popped_pending (s : State) (p : Port) :
    (s.popped p).pending = s.pending := rfl

@[simp] theorem State.popped_resetLow (s : State) (p : Port) :
    (s.popped p).resetLow = s.resetLow := rfl

@[simp] theorem State.popped_refclk (s : State) (p : Port) :
    (s.popped p).refclk = s.refclk := rfl

@[simp] theorem State.popped_tick (s : State) (p : Port) :
    (s.popped p).tick = s.tick := rfl

@[simp] theorem State.popped_pool (s : State) (p : Port) :
    (s.popped p).pool = s.pool := rfl

@[simp] theorem State.popped_running (s : State) (p : Port) :
    (s.popped p).running = s.running := rfl

@[simp] theorem State.popped_grantPointer (s : State) (p : Port) :
    (s.popped p).grantPointer = s.grantPointer := rfl

@[simp] theorem State.responded_acc (s : State) (p : Port) (tag : Byte) (st : Status) (payload : List Byte) (a : AccIx) :
    (s.responded p tag st payload).acc a = s.acc a := rfl

@[simp] theorem State.responded_claims (s : State) (p : Port) (tag : Byte) (st : Status) (payload : List Byte) (a : AccIx) :
    (s.responded p tag st payload).claims a = s.claims a := rfl

@[simp] theorem State.responded_group (s : State) (p : Port) (tag : Byte) (st : Status) (payload : List Byte) (g : GroupIx) :
    (s.responded p tag st payload).group g = s.group g := rfl

@[simp] theorem State.responded_notice (s : State) (p : Port) (tag : Byte) (st : Status) (payload : List Byte) (g : GroupIx) :
    (s.responded p tag st payload).notice g = s.notice g := rfl

@[simp] theorem State.responded_monitor (s : State) (p : Port) (tag : Byte) (st : Status) (payload : List Byte) (m : MonIx) :
    (s.responded p tag st payload).monitor m = s.monitor m := rfl

@[simp] theorem State.responded_jobs (s : State) (p : Port) (tag : Byte) (st : Status) (payload : List Byte) (q : Port) :
    (s.responded p tag st payload).jobs q = s.jobs q := rfl

@[simp] theorem State.responded_session (s : State) (p : Port) (tag : Byte) (st : Status) (payload : List Byte) (q : Port) :
    (s.responded p tag st payload).session q = s.session q := rfl

@[simp] theorem State.responded_events (s : State) (p : Port) (tag : Byte) (st : Status) (payload : List Byte) (q : Port) :
    (s.responded p tag st payload).events q = s.events q := rfl

@[simp] theorem State.responded_pending (s : State) (p : Port) (tag : Byte) (st : Status) (payload : List Byte) :
    (s.responded p tag st payload).pending = s.pending := rfl

@[simp] theorem State.responded_resetLow (s : State) (p : Port) (tag : Byte) (st : Status) (payload : List Byte) :
    (s.responded p tag st payload).resetLow = s.resetLow := rfl

@[simp] theorem State.responded_refclk (s : State) (p : Port) (tag : Byte) (st : Status) (payload : List Byte) :
    (s.responded p tag st payload).refclk = s.refclk := rfl

@[simp] theorem State.responded_tick (s : State) (p : Port) (tag : Byte) (st : Status) (payload : List Byte) :
    (s.responded p tag st payload).tick = s.tick := rfl

@[simp] theorem State.responded_pool (s : State) (p : Port) (tag : Byte) (st : Status) (payload : List Byte) :
    (s.responded p tag st payload).pool = s.pool := rfl

@[simp] theorem State.responded_running (s : State) (p : Port) (tag : Byte) (st : Status) (payload : List Byte) :
    (s.responded p tag st payload).running = s.running := rfl

@[simp] theorem State.responded_grantPointer (s : State) (p : Port) (tag : Byte) (st : Status) (payload : List Byte) :
    (s.responded p tag st payload).grantPointer = s.grantPointer := rfl

@[simp] theorem State.held_acc (s : State) (p : Port) (a : AccIx) :
    (s.held p).acc a = s.acc a := rfl

@[simp] theorem State.held_claims (s : State) (p : Port) (a : AccIx) :
    (s.held p).claims a = s.claims a := rfl

@[simp] theorem State.held_group (s : State) (p : Port) (g : GroupIx) :
    (s.held p).group g = s.group g := rfl

@[simp] theorem State.held_notice (s : State) (p : Port) (g : GroupIx) :
    (s.held p).notice g = s.notice g := rfl

@[simp] theorem State.held_monitor (s : State) (p : Port) (m : MonIx) :
    (s.held p).monitor m = s.monitor m := rfl

@[simp] theorem State.held_jobs (s : State) (p : Port) (q : Port) :
    (s.held p).jobs q = s.jobs q := rfl

@[simp] theorem State.held_session (s : State) (p : Port) (q : Port) :
    (s.held p).session q = s.session q := rfl

@[simp] theorem State.held_events (s : State) (p : Port) (q : Port) :
    (s.held p).events q = s.events q := rfl

@[simp] theorem State.held_pending (s : State) (p : Port) :
    (s.held p).pending = s.pending := rfl

@[simp] theorem State.held_resetLow (s : State) (p : Port) :
    (s.held p).resetLow = s.resetLow := rfl

@[simp] theorem State.held_refclk (s : State) (p : Port) :
    (s.held p).refclk = s.refclk := rfl

@[simp] theorem State.held_tick (s : State) (p : Port) :
    (s.held p).tick = s.tick := rfl

@[simp] theorem State.held_pool (s : State) (p : Port) :
    (s.held p).pool = s.pool := rfl

@[simp] theorem State.held_running (s : State) (p : Port) :
    (s.held p).running = s.running := rfl

@[simp] theorem State.held_grantPointer (s : State) (p : Port) :
    (s.held p).grantPointer = s.grantPointer := rfl

@[simp] theorem State.popped_port_self (s : State) (p : Port) :
    (s.popped p).port p = { s.port p with requests := (s.port p).requests.tail, holding := false } := by
  simp [State.popped]

theorem State.popped_port_ne (s : State) {p q : Port} (h : q ≠ p) : (s.popped p).port q = s.port q := by
  simp [State.popped, State.setPort_port, h]

theorem State.responded_port_ne (s : State) {p q : Port} (tag : Byte) (st : Status) (payload : List Byte) (h : q ≠ p) :
    (s.responded p tag st payload).port q = s.port q := by
  simp [State.responded, State.setPort_port, h]

/-! ### Device reset -/

@[simp] theorem State.atReset_port (s : State) (low : Bool) (p : Port) : (s.atReset low).port p = (s.port p).atReset := by
  fin_cases p <;> rfl

/-! ### Posts change event queues alone -/

/-- Two states that differ at most in their event queues. -/
def State.SameButEvents (s t : State) : Prop := t = { s with eventQueues := t.eventQueues }

theorem State.SameButEvents.refl (s : State) : s.SameButEvents s := rfl

theorem State.SameButEvents.trans {s t u : State} (h : s.SameButEvents t) (h' : t.SameButEvents u) :
    s.SameButEvents u := by
  unfold State.SameButEvents at *
  rw [h', h]

/-- A copy that arrives is enqueued in an OPEN session of its number, and is dropped otherwise (R149). -/
theorem State.deliver_cases (s : State) (p : Port) (number : SessionNumber) (e : EventRecord) :
    s.deliver p number e = s.setEvents p (enqueue (s.events p) e) ∨ s.deliver p number e = s := by
  unfold State.deliver
  split
  · exact .inl rfl
  · exact .inr rfl

theorem State.postRecord_sameButEvents (s : State) (e : EventRecord) (p : Port) : s.SameButEvents (s.postRecord e p) := by
  obtain h | h := s.deliver_cases p (s.session p).number e
  · exact (congrArg _ h).mpr rfl
  · exact (congrArg _ h).mpr rfl

theorem State.post_sameButEvents (s : State) (p : Port) (e : Event) : s.SameButEvents (s.post p e) :=
  s.postRecord_sameButEvents _ p

theorem State.postEach_sameButEvents (s : State) (ps : List Port) (e : EventRecord) : s.SameButEvents (s.postEach ps e) := by
  induction ps generalizing s with
  | nil => rfl
  | cons p ps ih => exact (s.postRecord_sameButEvents e p).trans (ih _)

/-! ### Judging and detaching change monitors and event queues alone -/

/-- Two states that differ at most in their monitors and event queues. -/
def State.SameButMonitors (s t : State) : Prop := t = { s with monitors := t.monitors, eventQueues := t.eventQueues }

theorem State.SameButMonitors.refl (s : State) : s.SameButMonitors s := rfl

theorem State.SameButMonitors.trans {s t u : State} (h : s.SameButMonitors t) (h' : t.SameButMonitors u) :
    s.SameButMonitors u := by
  unfold State.SameButMonitors at *
  rw [h', h]

theorem State.SameButEvents.monitors {s t : State} (h : s.SameButEvents t) : s.SameButMonitors t := by
  unfold State.SameButEvents at h
  unfold State.SameButMonitors
  rw [h]

theorem State.setMonitor_sameButMonitors (s : State) (i : MonIx) (m : Option Monitor) :
    s.SameButMonitors (s.setMonitor i m) := rfl

theorem State.judgeMonitor_sameButMonitors (s : State) (i : MonIx) (m : Monitor) (v : Int) :
    s.SameButMonitors (s.judgeMonitor i m v) := by
  unfold State.judgeMonitor
  dsimp only
  split
  · exact (s.setMonitor_sameButMonitors i _).trans (State.postEach_sameButEvents _ _ _).monitors
  · exact s.setMonitor_sameButMonitors i _

theorem State.evaluateOne_sameButMonitors (a : AccIx) (live : Wide) (closed : Option Wide) (s : State) (i : MonIx) :
    s.SameButMonitors (State.evaluateOne a live closed s i) := by
  unfold State.evaluateOne
  split
  · split
    · split
      · exact s.judgeMonitor_sameButMonitors _ _ _
      · exact .refl s
    · exact .refl s
  · exact .refl s

theorem State.detachOne_sameButMonitors (a : AccIx) (who : Port → Bool) (reason : DetachReason) (s : State) (i : MonIx) :
    s.SameButMonitors (State.detachOne a who reason s i) := by
  unfold State.detachOne
  split
  · split
    · exact (s.setMonitor_sameButMonitors i _).trans (State.post_sameButEvents _ _ _).monitors
    · exact .refl s
  · exact .refl s

theorem State.foldl_sameButMonitors {f : State → MonIx → State}
    (h : ∀ (s : State) (i : MonIx), s.SameButMonitors (f s i))
    (l : List MonIx) (s : State) : s.SameButMonitors (l.foldl f s) := by
  induction l generalizing s with
  | nil => exact .refl s
  | cons i l ih => exact (h s i).trans (ih _)

/-- An evaluation changes monitors and event queues alone (R132). -/
theorem State.evaluate_sameButMonitors (s : State) (a : AccIx) (live : Wide) (closed : Option Wide) :
    s.SameButMonitors (s.evaluate a live closed) :=
  State.foldl_sameButMonitors (State.evaluateOne_sameButMonitors a live closed) allMonitors s

/-- A detachment changes monitors and event queues alone (R136, R137). -/
theorem State.detach_sameButMonitors (s : State) (a : AccIx) (who : Port → Bool) (reason : DetachReason) :
    s.SameButMonitors (s.detach a who reason) :=
  State.foldl_sameButMonitors (State.detachOne_sameButMonitors a who reason) allMonitors s

/-- A loss of access changes monitors and event queues alone (R46). -/
theorem State.loseAccess_sameButMonitors (s : State) (a : AccIx) (q : Port) : s.SameButMonitors (s.loseAccess a q) := by
  unfold State.loseAccess
  split
  · split
    · exact .refl s
    · exact s.detach_sameButMonitors _ _ _
  · exact .refl s

/-! ### A close of a window and a release -/

/-- A close changes the record of the accumulator, monitors and event queues alone (R19, R20). -/
theorem State.closeWindow_sameButMonitors (s : State) (a : AccIx) (r : Accumulator) (cause : Cause) (tick : Word32) :
    (s.setAcc a (some (r.closed cause tick))).SameButMonitors (s.closeWindow a r cause tick) :=
  (State.postEach_sameButEvents _ _ _).monitors.trans (State.evaluate_sameButMonitors _ _ _ _)

/-- A ring never passes its depth by an append (R101). -/
theorem ringAppend_length (depth : Nat) (ring : List ClosedRecord) (r : ClosedRecord) :
    (ringAppend depth ring r).length = min depth (ring.length + 1) := by
  unfold ringAppend
  split <;> [skip; split] <;> simp <;> omega

/-- A release leaves the record FREE and without a claim, its depth in the pool, and beside these changes monitors and
event queues alone (R9). -/
theorem State.release_frame (s : State) (a : AccIx) (r : Accumulator) (releaser : Port) (reason : GoneReason) :
    (((s.setPool (s.pool + r.depth)).setAcc a none).setClaims a []).SameButMonitors (s.release a r releaser reason) := by
  have key : ∀ u : State, s.SameButMonitors u →
      (((s.setPool (s.pool + r.depth)).setAcc a none).setClaims a []).SameButMonitors
        (((u.setPool (u.pool + r.depth)).setAcc a none).setClaims a []) := by
    intro u h
    unfold State.SameButMonitors at *
    rw [h]
    rfl
  unfold State.release
  dsimp only
  refine key _ (State.SameButMonitors.trans ?_ (State.detach_sameButMonitors _ _ _ _))
  refine State.SameButMonitors.trans ?_ (State.postEach_sameButEvents _ _ _).monitors
  split
  · exact (State.post_sameButEvents _ _ _).monitors
  · exact .refl s

end Sys2Proof.Machine
end

