-- ==== Sys2Proof/Laws/Payloads.lean ====
section
/-! SUPPORT. The bytes of frames: what the decoder's operand readers give for a payload as the tables of chapter 11 have it
sent, and that the payloads the meanings form are those the statements write out. -/

namespace Sys2Proof.Machine

/-! ### Numbers in bytes (R189) -/

theorem beBytes_length (n v : Nat) : (beBytes n v).length = n := by
  induction n with
  | zero => rfl
  | succ n ih => simp [beBytes, ih]

@[simp] theorem wordBytes_length {w : Nat} (n : Nat) (x : BitVec w) : (wordBytes n x).length = n := beBytes_length _ _

theorem beNat_fold (l : List Byte) (k : Nat) :
    l.foldl (fun acc b => acc * 256 + b.toNat) k = k * 256 ^ l.length + beNat l := by
  induction l generalizing k with
  | nil => simp [beNat]
  | cons b l ih =>
    simp only [List.foldl_cons, beNat, List.length_cons]
    rw [ih, ih (0 * 256 + b.toNat)]
    ring

/-- A number is read back from its bytes, so far as they carry it. -/
theorem beNat_beBytes (n v : Nat) : beNat (beBytes n v) = v % 256 ^ n := by
  induction n with
  | zero => simp [beBytes, beNat, Nat.mod_one]
  | succ n ih =>
    show List.foldl _ _ _ = _
    simp only [beBytes, List.foldl_cons]
    rw [beNat_fold, beBytes_length, ih, BitVec.toNat_ofNat, Nat.pow_succ 256, Nat.mod_mul (a := 256 ^ n)]
    norm_num [Nat.add_comm, Nat.mul_comm]

theorem wordOf_wordBytes {w : Nat} (n : Nat) (x : BitVec w) (h : 2 ^ w ≤ 256 ^ n) : wordOf w (wordBytes n x) = x := by
  unfold wordOf wordBytes
  rw [beNat_beBytes, Nat.mod_eq_of_lt (lt_of_lt_of_le x.isLt h), BitVec.ofNat_toNat, BitVec.setWidth_eq]

/-- A word is read back from the bytes that stand before others. -/
theorem wordOf_take {w : Nat} (n : Nat) (x : BitVec w) (l : List Byte) (h : 2 ^ w ≤ 256 ^ n) :
    wordOf w ((wordBytes n x ++ l).take n) = x := by
  rw [List.take_left' (wordBytes_length n x), wordOf_wordBytes n x h]

theorem wordBytes_drop {w : Nat} (n : Nat) (x : BitVec w) (l : List Byte) : (wordBytes n x ++ l).drop n = l :=
  List.drop_left' (wordBytes_length n x)

theorem byte_toNat {n : Nat} (h : n < 256) : (byte n).toNat = n := by
  simp [byte, BitVec.toNat_ofNat, Nat.mod_eq_of_lt h]

theorem boundedField_eq {lo hi n : Nat} (h1 : lo ≤ n) (h2 : n ≤ hi) : boundedField lo hi n = some n := by
  simp [boundedField, h1, h2]

/-! ### Fields (Tables 11-1, 11-2, 11-6, 11-8, 11-11) -/

theorem createField_byte (a : AccIx) : createField (byte a.val) = some (some a) := by revert a; decide

theorem offerField_sent (t : Option Port) : offerField (sentPort t) = some t := by
  cases t with
  | none => rfl
  | some p => revert p; decide

/-- The policy pair is read back. -/
theorem policiesField_sent (x : Policies) : ∃ b0 b1, x.sent = [b0, b1] ∧ policiesField b0 b1 = some x := by
  obtain ⟨m, c, r, o, b⟩ := x
  refine ⟨_, _, rfl, ?_⟩
  cases b with
  | manual => cases m <;> cases c <;> cases r <;> cases o <;> rfl
  | group g =>
    cases m <;> cases c <;> cases r <;> cases o <;> (revert g; decide)

/-- The read format byte pair is read back. -/
theorem formatField_sent (x : ReadFormat) : ∃ b0 b1, x.sent = [b0, b1] ∧ formatField b0 b1 = some x := by
  obtain ⟨k, r, w, l⟩ := x
  refine ⟨_, _, rfl, ?_⟩
  cases r <;> cases w <;> cases l <;> (revert k; decide)

/-! ### Payloads (Tables 11-4 to 11-8) -/

theorem createOperands_sent (x : CreateArgs) (h : x.depth ≤ 32) : createOperands x.sent = .ok x := by
  obtain ⟨t, x, depth⟩ := x
  obtain ⟨b0, b1, e, hp⟩ := policiesField_sent x
  have hd := boundedField_eq (Nat.zero_le depth) (show depth ≤ Config.maxDepth from h)
  have hb := byte_toNat (show depth < 256 by simp at h; omega)
  cases t with
  | none => simp only [CreateArgs.sent, e, List.cons_append, List.nil_append, createOperands, hp, hb, hd]; rfl
  | some a =>
    simp only [CreateArgs.sent, e, List.cons_append, List.nil_append, createOperands, createField_byte, hp, hb, hd]; rfl

theorem configureOperands_sent (a : AccIx) (x : Policies) : configureOperands (byte a.val :: x.sent) = .ok (a, x) := by
  obtain ⟨b0, b1, e, hp⟩ := policiesField_sent x
  simp [e, configureOperands, hp, checkFields]

theorem grantOperands_sent (x : GrantArgs) : grantOperands x.sent = .ok x := by
  obtain ⟨a, p, r⟩ := x
  cases r <;> simp only [GrantArgs.sent, grantOperands, accField_byte, portField_byte] <;> rfl

theorem offerOperands_sent (x : OfferArgs) : offerOperands x.sent = .ok x := by
  obtain ⟨a, p, k⟩ := x
  cases k <;> simp only [OfferArgs.sent, offerOperands, accField_byte, offerField_sent] <;> rfl

theorem subscribeOperands_sent (x : SubscribeArgs) : subscribeOperands x.sent = .ok x := by
  obtain ⟨a, next, notify, f⟩ := x
  obtain ⟨b0, b1, e, hf⟩ := formatField_sent f
  cases next <;> cases notify <;>
    simp only [SubscribeArgs.sent, e, List.cons_append, List.nil_append, subscribeOperands, accField_byte, hf] <;> rfl

/-- Operand pairs are read back from the bytes that stand before others. -/
theorem pairsOf_sent (pairs : List (Word32 × Word32)) (l : List Byte) :
    pairsOf pairs.length ((pairs.flatMap fun x => wordBytes 4 x.1 ++ wordBytes 4 x.2) ++ l) = pairs := by
  induction pairs with
  | nil => rfl
  | cons x pairs ih =>
    simp only [List.length_cons, pairsOf, List.flatMap_cons, List.append_assoc]
    rw [wordOf_take 4 x.1 _ (by norm_num), wordBytes_drop, wordOf_take 4 x.2 _ (by norm_num)]
    have : ∀ m : List Byte, (wordBytes 4 x.1 ++ (wordBytes 4 x.2 ++ m)).drop 8 = m := by
      intro m
      rw [show (8 : Nat) = 4 + 4 from rfl, ← List.drop_drop, wordBytes_drop, wordBytes_drop]
    rw [this, ih]

theorem pairsSent_length (pairs : List (Word32 × Word32)) :
    (pairs.flatMap fun x => wordBytes 4 x.1 ++ wordBytes 4 x.2).length = 8 * pairs.length := by
  induction pairs with
  | nil => rfl
  | cons x pairs ih => simp only [List.flatMap_cons, List.length_append, ih, wordBytes_length, List.length_cons]; omega

/-- The bits of the control byte of an ACCUMULATE. -/
theorem control_sent : ∀ (n : Fin 17) (t g : Bool),
    let c := byte (n.val + weight t 64 + weight g 128)
    pairCount c = n.val ∧ c.getLsbD 6 = t ∧ c.getLsbD 7 = g ∧ c.getLsbD 5 = false := by decide

theorem accumulateOperands_sent (a : AccIx) (pairs : List (Word32 × Word32)) (negate : Bool) (target : Option Sequence)
    (h1 : 1 ≤ pairs.length) (h2 : pairs.length ≤ 16) :
    accumulateOperands (Work.accumulate a pairs negate target).sent = .ok (.accumulate a pairs negate target) := by
  obtain ⟨c1, c2, c3, c4⟩ := control_sent ⟨pairs.length, by omega⟩ target.isSome negate
  simp only [Work.sent, List.cons_append, List.nil_append, accumulateOperands, targetBytes, c1, c2, c3, c4, targetOf]
  have hl := pairsSent_length pairs
  have e1 := pairsOf_sent pairs (sentTarget target)
  have e2 : ∀ m : List Byte,
      ((pairs.flatMap fun x => wordBytes 4 x.1 ++ wordBytes 4 x.2) ++ m).drop (8 * pairs.length) = m :=
    fun m => List.drop_left' hl
  rw [if_neg (by omega), e1, e2]
  cases target with
  | none => rw [if_neg (by simp [sentTarget, hl])]; simp [checkFields]
  | some w =>
    rw [if_neg (by simp [sentTarget, hl])]
    have := wordOf_take 6 w [] (by norm_num)
    simp only [List.append_nil] at this
    simp [checkFields, sentTarget, this]

theorem loadOperands_sent (a : AccIx) (value : Word64) (target : Option Sequence) :
    loadOperands (Work.load a value target).sent = .ok (.load a value target) := by
  have hv := wordOf_wordBytes 8 value (by norm_num)
  have hd := fun l => wordBytes_drop 8 value l
  cases target with
  | none =>
    have c : (byte (weight false 64)) = 0#8 := rfl
    have ht : (wordBytes 8 value).take 8 = wordBytes 8 value := List.take_of_length_le (by simp)
    simp [Work.sent, loadOperands, targetBytes, targetOf, sentTarget, c, checkFields, hv, ht]
  | some w =>
    have c : (byte (weight true 64)) = 64#8 := rfl
    have := wordOf_take 6 w [] (by norm_num)
    simp only [List.append_nil] at this
    simp [Work.sent, loadOperands, targetBytes, targetOf, sentTarget, c, checkFields, hv, hd, this]

theorem readLiveOperands_sent (a : AccIx) (asked : Option ReadFormat) :
    readLiveOperands (byte a.val :: sentFormat asked) = .ok (a, asked) := by
  cases asked with
  | none => simp [sentFormat, readLiveOperands, checkFields]
  | some f =>
    obtain ⟨b0, b1, e, hf⟩ := formatField_sent f
    simp [sentFormat, e, readLiveOperands, hf, checkFields]

theorem readHistoryOperands_sent (x : HistoryArgs) (h1 : 1 ≤ x.maximum) (h2 : x.maximum ≤ 4) :
    readHistoryOperands x.sent = .ok x := by
  obtain ⟨a, m, asked⟩ := x
  have hm := byte_toNat (show m < 256 by simp at h2; omega)
  have hb := boundedField_eq h1 h2
  cases asked with
  | none => simp [HistoryArgs.sent, sentFormat, readHistoryOperands, hm, hb, checkFields]
  | some f =>
    obtain ⟨b0, b1, e, hf⟩ := formatField_sent f
    simp [HistoryArgs.sent, sentFormat, e, readHistoryOperands, hm, hb, hf, checkFields]

theorem readRecordOperands_sent (a : AccIx) (w : Sequence) :
    readRecordOperands (byte a.val :: wordBytes 6 w) = .ok (a, w) := by
  have := wordOf_wordBytes 6 w (by norm_num)
  show checkFields ((accField (byte a.val)).map fun a => (a, wordOf 48 (wordBytes 6 w))) = _
  rw [this, accField_byte]
  rfl

theorem resizeOperands_sent (a : AccIx) (depth : Nat) (h : depth ≤ 32) :
    resizeOperands [byte a.val, byte depth] = .ok (a, depth) := by
  simp only [resizeOperands, accField_byte, byte_toNat (show depth < 256 by omega),
    boundedField_eq (Nat.zero_le _) (show depth ≤ Config.maxDepth from h)]
  rfl

theorem beNat_two (n : Nat) (h : n ≤ 65535) : ∃ b1 b0, beBytes 2 n = [b1, b0] ∧ beNat [b1, b0] = n := by
  refine ⟨_, _, rfl, ?_⟩
  have := beNat_beBytes 2 n
  rwa [Nat.mod_eq_of_lt (by norm_num; omega)] at this

theorem groupSetOperands_sent (g : GroupIx) (period : Nat) (h1 : 1 ≤ period) (h2 : period ≤ 65535) :
    groupSetOperands (byte g.val :: beBytes 2 period) = .ok (g, period) := by
  obtain ⟨b1, b0, e, h⟩ := beNat_two period h2
  simp [e, groupSetOperands, h, boundedField_eq h1 h2, checkFields]

theorem groupStartOperands_sent (g : GroupIx) (phase : Option Nat) (h : ∀ n, phase = some n → 1 ≤ n ∧ n ≤ 65535) :
    groupStartOperands (byte g.val :: (phase.map (beBytes 2)).getD []) = .ok (g, phase) := by
  cases phase with
  | none => simp [groupStartOperands, checkFields]
  | some n =>
    obtain ⟨h1, h2⟩ := h n rfl
    obtain ⟨b1, b0, e, h⟩ := beNat_two n h2
    simp [e, groupStartOperands, h, boundedField_eq h1 h2, checkFields]

/-- The bits of the monitor configuration byte. -/
theorem sentByte_bits (c : MonitorConfig) :
    c.sentByte.toNat < 32 ∧ c.sentByte.getLsbD 0 = (c.source == .closed) ∧ c.sentByte.getLsbD 1 = c.toInside ∧
    c.sentByte.getLsbD 2 = c.toAbove ∧ c.sentByte.getLsbD 3 = c.toBelow ∧ c.sentByte.getLsbD 4 = c.notifyReaders := by
  obtain ⟨s, lo, hi, h, i, a, b, n⟩ := c
  unfold MonitorConfig.sentByte
  dsimp only
  cases s <;> revert i a b n <;> decide

theorem monCreateOperands_sent (a : AccIx) (c : MonitorConfig) (h1 : c.low.toInt ≤ c.high.toInt)
    (h2 : 2 * (c.hysteresis.toNat : Int) ≤ c.high.toInt - c.low.toInt) :
    monCreateOperands ([byte a.val, c.sentByte] ++ c.sentBounds) = .ok (a, c) := by
  obtain ⟨b, b0, b1, b2, b3, b4⟩ := sentByte_bits c
  have e1 := fun l => wordOf_take 8 c.low l (by norm_num)
  have e2 := fun l => wordOf_take 8 c.high l (by norm_num)
  have e3 := wordOf_wordBytes 4 c.hysteresis (by norm_num)
  have d1 := fun l => wordBytes_drop 8 c.low l
  have d2 : (wordBytes 8 c.low ++ (wordBytes 8 c.high ++ wordBytes 4 c.hysteresis)).drop 16 = wordBytes 4 c.hysteresis := by
    rw [show (16 : Nat) = 8 + 8 from rfl, ← List.drop_drop, wordBytes_drop, wordBytes_drop]
  have hd : boundsDefined c.low c.high c.hysteresis = true := by simp [boundsDefined, h1, h2]
  have hs : (if (c.source == .closed) = true then Source.closed else .live) = c.source := by cases c.source <;> rfl
  simp only [MonitorConfig.sentBounds, List.cons_append, List.nil_append, List.append_assoc, monCreateOperands,
    accField_byte, d1, d2, e1, e2, e3, b0, b1, b2, b3, b4, hs, if_pos (And.intro b hd), checkFields]
  rfl

/-! ### Responses (Tables 11-9 to 11-15) -/

theorem Policies.code_sent (x : Policies) : x.sent = [x.code, x.binding.code] := by
  obtain ⟨m, c, r, o, b⟩ := x
  cases m <;> cases c <;> cases r <;> cases o <;> cases b <;> rfl

theorem portOrAbsent_sent (p : Option Port) : portOrAbsent p = sentPort p := by cases p <;> rfl

/-- ACC_INFO of a record in use; without an offer the model sends bit 3 of the info flags as 0 (log entry 16). -/
theorem infoPayload_sent (r : Accumulator) : infoPayload (some r) = r.sent (r.offer.any (·.keep)) := by
  unfold infoPayload Accumulator.sent Accumulator.infoFlags Accumulator.oldestHeld Accumulator.stateCode
  simp only [Policies.code_sent, portOrAbsent_sent]
  cases r.owner <;> cases r.ring <;> rfl

theorem monitorPayload_sent (m : Monitor) : monitorPayload (some m) = m.sent := by
  obtain ⟨armed, p, a, c, r⟩ := m
  cases r <;> simp only [monitorPayload, Monitor.sent, MonitorConfig.sentBounds, MonitorConfig.sentByte,
    MonitorConfig.code, List.append_assoc] <;> rfl

theorem presentation_sent (x : ReadFormat) (v : Wide) : presentation x v = x.sentPresentation v := by
  unfold presentation ReadFormat.sentPresentation
  cases x.width <;> rfl

theorem ClosedRecord.bytes_sent (x : ReadFormat) (r : ClosedRecord) : r.bytes x = r.sent x := by
  unfold ClosedRecord.bytes ClosedRecord.sent ClosedRecord.flags Cause.countField
  rw [presentation_sent]
  cases r.cause <;> rfl

theorem EventRecord.bytes_sent (e : EventRecord) : e.bytes = e.sent := by
  obtain ⟨e, t⟩ := e
  cases e with
  | windowClosed a q b => cases b <;> rfl
  | threshold m a r v => cases r <;> rfl
  | monitorDetached m a r => cases r <;> rfl
  | accGone a r => cases r <;> rfl
  | accOrphaned a => rfl
  | accClaimed a p => rfl
  | offer a p k => cases k <;> rfl
  | offerWithdrawn a => rfl
  | offerEnded a p => rfl
  | rightsChanged a g => cases g <;> rfl
  | eventsLost n => rfl

theorem EndCause.code_sent (c : EndCause) : c.code = c.sent := by cases c <;> rfl

end Sys2Proof.Machine
end

