-- ==== Sys2Proof/Laws/PerInstr.lean ====
section
/-! SUPPORT. The family `Spelling`: the numbers that spell a command are well formed and spell that command. -/

namespace Sys2Proof

theorem indexBelow_val {n : Nat} (i : Fin n) : indexBelow n i.val = some i := by
  simp [indexBelow]

theorem byteOf_toNat (b : Byte) : byteOf b.toNat = some b := by
  rw [byteOf, dif_pos b.isLt, BitVec.ofNatLT_toNat]

theorem spelled_index {n : Nat} {f : Fin n → Instr} (i : Fin n) : (indexBelow n i.val).map f = some (f i) := by
  rw [indexBelow_val]; rfl

theorem spelled_pair {n : Nat} {f : Fin n → Byte → Instr} (i : Fin n) (b : Byte) :
    ((indexBelow n i.val).bind fun i => (byteOf b.toNat).map (f i)) = some (f i b) := by
  rw [indexBelow_val, byteOf_toNat]; rfl

/-- What is said of each command: its numbers, checked, give the command back. -/
def Laws.Spelling.Statement (i : Instr) : Prop := i.raw.command? = some i

theorem Laws.Spelling.deviceReset : Laws.Spelling.Statement .deviceReset := rfl

theorem Laws.Spelling.tick : Laws.Spelling.Statement .tick := rfl

theorem Laws.Spelling.leaseExpiry (p : Port) : Laws.Spelling.Statement (.leaseExpiry p) := spelled_index (f := .leaseExpiry) p

theorem Laws.Spelling.boundary (g : GroupIx) : Laws.Spelling.Statement (.boundary g) := spelled_index (f := .boundary) g

theorem Laws.Spelling.boundaryNotice (g : GroupIx) : Laws.Spelling.Statement (.boundaryNotice g) := spelled_index (f := .boundaryNotice) g

theorem Laws.Spelling.closeClaim (a : AccIx) : Laws.Spelling.Statement (.closeClaim a) := spelled_index (f := .closeClaim) a

theorem Laws.Spelling.transactionStart (p : Port) : Laws.Spelling.Statement (.transactionStart p) := spelled_index (f := .transactionStart) p

theorem Laws.Spelling.transactionEnd (p : Port) : Laws.Spelling.Statement (.transactionEnd p) := spelled_index (f := .transactionEnd) p

theorem Laws.Spelling.null (p : Port) : Laws.Spelling.Statement (.null p) := spelled_index (f := .null) p

theorem Laws.Spelling.resync (p : Port) : Laws.Spelling.Statement (.resync p) := spelled_index (f := .resync) p

theorem Laws.Spelling.badKind (p : Port) : Laws.Spelling.Statement (.badKind p) := spelled_index (f := .badKind) p

theorem Laws.Spelling.openSession (p : Port) : Laws.Spelling.Statement (.openSession p) := spelled_index (f := .openSession) p

theorem Laws.Spelling.closeSession (p : Port) : Laws.Spelling.Statement (.closeSession p) := spelled_index (f := .closeSession) p

theorem Laws.Spelling.portStatus (p : Port) : Laws.Spelling.Statement (.portStatus p) := spelled_index (f := .portStatus) p

theorem Laws.Spelling.engineSessionEnd (p : Port) : Laws.Spelling.Statement (.engineSessionEnd p) := spelled_index (f := .engineSessionEnd) p

theorem Laws.Spelling.eventQueueSessionEnd (p : Port) : Laws.Spelling.Statement (.eventQueueSessionEnd p) := spelled_index (f := .eventQueueSessionEnd) p

theorem Laws.Spelling.portSessionEnd (p : Port) : Laws.Spelling.Statement (.portSessionEnd p) := spelled_index (f := .portSessionEnd) p

theorem Laws.Spelling.accCreate (p : Port) : Laws.Spelling.Statement (.accCreate p) := spelled_index (f := .accCreate) p

theorem Laws.Spelling.accConfigure (p : Port) : Laws.Spelling.Statement (.accConfigure p) := spelled_index (f := .accConfigure) p

theorem Laws.Spelling.accRelease (p : Port) : Laws.Spelling.Statement (.accRelease p) := spelled_index (f := .accRelease) p

theorem Laws.Spelling.accInfo (p : Port) : Laws.Spelling.Statement (.accInfo p) := spelled_index (f := .accInfo) p

theorem Laws.Spelling.accGrant (p : Port) : Laws.Spelling.Statement (.accGrant p) := spelled_index (f := .accGrant) p

theorem Laws.Spelling.accOffer (p : Port) : Laws.Spelling.Statement (.accOffer p) := spelled_index (f := .accOffer) p

theorem Laws.Spelling.accAccept (p : Port) : Laws.Spelling.Statement (.accAccept p) := spelled_index (f := .accAccept) p

theorem Laws.Spelling.accClaim (p : Port) : Laws.Spelling.Statement (.accClaim p) := spelled_index (f := .accClaim) p

theorem Laws.Spelling.subscribe (p : Port) : Laws.Spelling.Statement (.subscribe p) := spelled_index (f := .subscribe) p

theorem Laws.Spelling.unsubscribe (p : Port) : Laws.Spelling.Statement (.unsubscribe p) := spelled_index (f := .unsubscribe) p

theorem Laws.Spelling.accumulate (p : Port) : Laws.Spelling.Statement (.accumulate p) := spelled_index (f := .accumulate) p

theorem Laws.Spelling.load (p : Port) : Laws.Spelling.Statement (.load p) := spelled_index (f := .load) p

theorem Laws.Spelling.closeWindow (p : Port) : Laws.Spelling.Statement (.closeWindow p) := spelled_index (f := .closeWindow) p

theorem Laws.Spelling.fence (p : Port) : Laws.Spelling.Statement (.fence p) := spelled_index (f := .fence) p

theorem Laws.Spelling.grant : Laws.Spelling.Statement .grant := rfl

theorem Laws.Spelling.jobCompletion : Laws.Spelling.Statement .jobCompletion := rfl

theorem Laws.Spelling.jobCancel (p : Port) : Laws.Spelling.Statement (.jobCancel p) := spelled_index (f := .jobCancel) p

theorem Laws.Spelling.readLive (p : Port) : Laws.Spelling.Statement (.readLive p) := spelled_index (f := .readLive) p

theorem Laws.Spelling.readHistory (p : Port) : Laws.Spelling.Statement (.readHistory p) := spelled_index (f := .readHistory) p

theorem Laws.Spelling.readRecord (p : Port) : Laws.Spelling.Statement (.readRecord p) := spelled_index (f := .readRecord) p

theorem Laws.Spelling.historyResize (p : Port) : Laws.Spelling.Statement (.historyResize p) := spelled_index (f := .historyResize) p

theorem Laws.Spelling.groupClaim (p : Port) : Laws.Spelling.Statement (.groupClaim p) := spelled_index (f := .groupClaim) p

theorem Laws.Spelling.groupSet (p : Port) : Laws.Spelling.Statement (.groupSet p) := spelled_index (f := .groupSet) p

theorem Laws.Spelling.groupStart (p : Port) : Laws.Spelling.Statement (.groupStart p) := spelled_index (f := .groupStart) p

theorem Laws.Spelling.groupStop (p : Port) : Laws.Spelling.Statement (.groupStop p) := spelled_index (f := .groupStop) p

theorem Laws.Spelling.groupRelease (p : Port) : Laws.Spelling.Statement (.groupRelease p) := spelled_index (f := .groupRelease) p

theorem Laws.Spelling.groupInfo (p : Port) : Laws.Spelling.Statement (.groupInfo p) := spelled_index (f := .groupInfo) p

theorem Laws.Spelling.monCreate (p : Port) : Laws.Spelling.Statement (.monCreate p) := spelled_index (f := .monCreate) p

theorem Laws.Spelling.monAttach (p : Port) : Laws.Spelling.Statement (.monAttach p) := spelled_index (f := .monAttach) p

theorem Laws.Spelling.monFree (p : Port) : Laws.Spelling.Statement (.monFree p) := spelled_index (f := .monFree) p

theorem Laws.Spelling.monInfo (p : Port) : Laws.Spelling.Statement (.monInfo p) := spelled_index (f := .monInfo) p

theorem Laws.Spelling.eventFetch (p : Port) : Laws.Spelling.Statement (.eventFetch p) := spelled_index (f := .eventFetch) p

theorem Laws.Spelling.byteShifted (p : Port) (sdi : Byte) : Laws.Spelling.Statement (.byteShifted p sdi) := spelled_pair (f := .byteShifted) p sdi

theorem Laws.Spelling.resetnReturnsHigh : Laws.Spelling.Statement .resetnReturnsHigh := rfl

end Sys2Proof
end

