-- ==== Sys2Proof/Tests/Slice0.lean ====
section
/-! SUPPORT. Tests: the refusals of `WellFormed`, the spec's own examples and worked sequences one step at a time, and for
every statement with hypotheses a state and operands that meet them, clause by clause. Expected values are the spec's. -/

namespace Sys2Proof.Tests

open Sys2Proof.Machine

set_option maxRecDepth 8000

/-! ### Helpers -/

/-- The state after a command; no command stops. -/
def after (c : Instr) (s : State) : State :=
  match exec c s with
  | .next t => t
  | .fault _ => s
  | .refused _ => s

/-- A session that is OPEN. -/
def opened (number : SessionNumber) (length remaining : Nat) : Session :=
  { Session.reset with number := number, lease := some { length := length, remaining := remaining } }

/-- Q15 read at width 16, the default format of section 6.5.1. -/
def q15 : ReadFormat := { shift := 15, rounding := .truncate, width := .w16, limit := .clamp }

/-- A record owned by P0, with contributor P1 and reader P2, bound to G1, holding two of its windows. -/
def shared : Accumulator :=
  { owner := some 0
    policies := { mode := .signed, closeAction := .clear, readerPolicy := .privateAccess, orphanPolicy := .keep
                  binding := .group 1 }
    live := 100, count := 3, saturated := false, openSequence := 5
    contributors := #v[false, true, false, false]
    readers := #v[none, none, some { cursor := 1, notify := true, format := q15 }, none]
    offer := none, depth := 2
    ring := [{ sequence := 3, value := 5000, count := 64, saturated := false, cause := .manual, tick := 9 },
             { sequence := 4, value := 5200, count := 64, saturated := true, cause := .scheduled 1 7, tick := 10 }] }

/-- An ORPHANED record with contributor P1, PUBLIC, at the last open sequence. -/
def orphan : Accumulator :=
  { shared with
    owner := none, openSequence := 0xFFFFFFFFFFFF, readers := Vector.replicate 4 none, depth := 0, ring := []
    policies := { shared.policies with readerPolicy := .publicAccess, binding := .manual } }

/-- A LIVE monitor of P2 on A0 (the band of section 7.6). -/
def watch : Monitor :=
  { armed := true, owner := 2, acc := 0, region := .unknown
    config := { source := .live, low := 1000, high := 5000, hysteresis := 500
                toInside := true, toAbove := true, toBelow := true, notifyReaders := true } }

/-- P0, P1 and P2 OPEN and P3 CLOSED; A0 `shared`, A31 `orphan`, M0 `watch`; G1 RUNNING and owned by P0. -/
def base : State :=
  ((((((State.reset.setSession 0 (opened 1 64 64)).setSession 1 (opened 2 16 1)).setSession 2
    (opened 0xFFFF 8192 2)).setAcc 0 (some shared)).setAcc 31 (some orphan)).setMonitor 0 (some watch)).setPool 254
    |>.setGroup 1 { period := 4, countdown := some 2, boundaryCount := 17, owner := some 0, boundaryDue := false }

/-- A request frame of tag 7. -/
def request (k : Kind) (l : List Byte) : Frame := { kind := k.code, tag := 7, payload := l }

/-- The request stands alone in the request queue of `p`, with its reservation. -/
def ask (s : State) (p : Port) (k : Kind) (l : List Byte) : State :=
  s.setPort p { s.port p with requests := [request k l], reservations := 1 }

/-- The state after the request is served. -/
def served (s : State) (p : Port) (k : Kind) (l : List Byte) : State := after (k.command p) (ask s p k l)

/-- The responses queued once the request is served. -/
def replies (s : State) (p : Port) (k : Kind) (l : List Byte) : List (Status × List Byte) :=
  ((served s p k l).port p).responses.map fun r => (r.status, r.payload)

/-- A job of `p`, tag 7, in the session P0 has in `base` or the one given. -/
def jobOf (p : Port) (session : SessionNumber) (w : Work) : Job :=
  { tag := 7, port := p, session := session, work := w, mark := .none }

/-- The state in which the engine runs a job of `p`, which holds its reservation. -/
def runs (s : State) (j : Job) : State :=
  (s.setRunning (some j)).setPort j.port { s.port j.port with reservations := 1 }

/-- The frame of a request as the host sends it. -/
def sent (kind tag : Byte) (payload : List Byte) : List Byte :=
  let run := kind :: tag :: byte payload.length :: payload
  run ++ [crc8 run]

/-- A port in a transaction in which these bytes have been received. -/
def receiving (s : State) (p : Port) (l : List Byte) : State :=
  s.setPort p { s.port p with selLow := true, framing := .selected, received := l.length, kept := l.take 140 }

/-! ### WellFormed -/

theorem test_wellFormed_accepts : (RawCommand.mk 49 [3, 255]).command? = some (.byteShifted 3 0xFF) ∧
    (RawCommand.mk 5 [31]).command? = some (.closeClaim 31) ∧ (RawCommand.mk 3 [3]).command? = some (.boundary 3) := by
  decide

theorem test_wellFormed_refuses_row : ¬ (RawCommand.mk 51 []).WellFormed := by decide

theorem test_wellFormed_refuses_operand_count :
    ¬ (RawCommand.mk 1 [0]).WellFormed ∧ ¬ (RawCommand.mk 49 [0]).WellFormed ∧ ¬ (RawCommand.mk 2 []).WellFormed := by
  decide

theorem test_wellFormed_refuses_port : ¬ (RawCommand.mk 11 [4]).WellFormed ∧ ¬ (RawCommand.mk 49 [4, 0]).WellFormed := by
  decide

theorem test_wellFormed_refuses_group : ¬ (RawCommand.mk 3 [4]).WellFormed := by decide

theorem test_wellFormed_refuses_accumulator : ¬ (RawCommand.mk 5 [32]).WellFormed := by decide

theorem test_wellFormed_refuses_byte : ¬ (RawCommand.mk 49 [0, 256]).WellFormed := by decide

/-! ### Bytes and formats: the examples of 10.2, 11.5 and 11.7 -/

theorem test_crc_of_resync : crc8 [0xFF] = 0xF3 ∧ crc8 [0xFF, 0x00] = 0xD7 ∧ crc8 [0xFF, 0x00, 0x00] = 0x2B := by decide

theorem test_crc_of_null : crc8 [0x00, 0x00, 0x00] = 0x00 := by decide

theorem test_format_encodings :
    formatField 0x00 0x03 = some ReadFormat.rawFormat ∧ formatField 0x8F 0x00 = some q15 ∧
    formatField 0x4F 0x00 = some { shift := 15, rounding := .nearest, width := .w16, limit := .wrap } ∧
    formatField 0xCA 0x00 = some { shift := 10, rounding := .nearest, width := .w16, limit := .clamp } ∧
    formatField 0xC4 0x01 = some { shift := 4, rounding := .nearest, width := .w32, limit := .clamp } ∧
    formatField 0x88 0x02 = some { shift := 8, rounding := .truncate, width := .w64, limit := .clamp } := by decide

theorem test_header_of_refused_port :
    (base.setPort 0 { base.port 0 with
      responses := [{ tag := 1, status := .ok, payload := [] }], refused := true, cause := .queueFull }).header 0 = 0xAA := by
  decide

theorem test_header_after_reset : State.reset.header 2 = 0x00 := by decide

/-! ### Arithmetic: the worked examples of 1.3 and 6.5 -/

/-- A record that is OWNED by P0 and bound to MANUAL, with this live value and count. -/
def holding (live : Wide) (count : Word32) : Accumulator :=
  { shared with live := live, count := count, openSequence := 1, depth := 0, ring := [], readers := Vector.replicate 4 none
                contributors := Vector.replicate 4 false, policies := { shared.policies with binding := .manual } }

/-- The pairs of a job, each operand as a signed number. -/
def pairs (l : List (Int × Int)) : List (Word32 × Word32) :=
  l.map fun x => (BitVec.ofInt 32 x.1, BitVec.ofInt 32 x.2)

/-- A5 of section 1.3.1 and the engine running a job of P0 on it. -/
def onA5 (live : Wide) (count : Word32) (w : Work) : State :=
  after .jobCompletion (runs (base.setAcc 5 (some (holding live count))) (jobOf 0 1 w))

theorem test_partial_131_job1 :
    let t := onA5 0 0 (.accumulate 5 (pairs [(1200, 350), (-800, 410), (25, -4)]) false none)
    (t.acc 5).map (fun r => (r.live, r.count)) = some (91900, 3) ∧
    (t.port 0).responses = [{ tag := 7, status := .ok, payload := [0, 0, 0, 0, 0, 1, 0, 0, 0, 3, 0] }] := by decide

theorem test_partial_131_job2_negated :
    ((onA5 91900 3 (.accumulate 5 (pairs [(300, 300), (-2147483648, 2)]) true none)).acc 5).map
      (fun r => (r.live, r.count)) = some (4294969196, 5) := by decide

theorem test_partial_131_load :
    ((onA5 4294969196 5 (.load 5 (BitVec.ofInt 64 (-5000)) none)).acc 5).map
      (fun r => (r.live.toInt, r.count, r.saturated)) = some (-5000, 5, false) := by decide

theorem test_partial_131_unsigned :
    productSum .unsigned [(0xFFFFFFFF, 2)] = 8589934590 ∧ operandValue .unsigned 0xFFFFFCE0 = 4294966496 := by decide

theorem test_clamp_132 :
    let t := onA5 (BitVec.ofInt 72 (2 ^ 71 - 100)) 4294967293
      (.accumulate 5 (pairs [(40, 1), (40, 1), (40, 1), (40, 1), (40, 1)]) false none)
    (t.acc 5).map (fun r => (r.live.toInt, r.count, r.saturated)) = some (2 ^ 71 - 1, 4294967295, true) := by decide

theorem test_clamp_132_after :
    (((onA5 (BitVec.ofInt 72 (2 ^ 71 - 1)) 4294967295 (.accumulate 5 (pairs [(10, 20)]) true none)).acc 5).map
      fun r => (r.live.toInt, r.count)) = some (2 ^ 71 - 201, 4294967295) := by decide

theorem test_present_651 :
    q15.present 369118752 = 11264 ∧ { q15 with rounding := .nearest }.present 369118752 = 11265 ∧
    (q15.present 3969118752, q15.clamped 3969118752) = (32767, true) ∧
    { q15 with limit := .wrap }.present 3969118752 = -9945 ∧
    { q15 with rounding := .nearest, limit := .wrap }.present 3969118752 = -9944 ∧
    { q15 with width := .w32 }.present 3969118752 = 121127 ∧
    ReadFormat.rawFormat.present 3969118752 = 3969118752 := by decide

/-- The format of section 6.5.2 under a rounding. -/
def at4 (r : Rounding) : ReadFormat := { shift := 4, rounding := r, width := .w32, limit := .clamp }

theorem test_present_652 :
    ([20001, -20001, 24, -24, -8, -9, 7] : List Int).map (fun v =>
      ((at4 .truncate).present (BitVec.ofInt 72 v), (at4 .nearest).present (BitVec.ofInt 72 v))) =
    [(1250, 1250), (-1251, -1250), (1, 2), (-2, -1), (-1, 0), (-1, -1), (0, 0)] := by decide

/-- A format of section 6.5.3: width 64. -/
def at64 (k : Fin 64) (r : Rounding) (l : Limit) : ReadFormat := { shift := k, rounding := r, width := .w64, limit := l }

theorem test_present_653 :
    ([at64 0 .truncate .clamp, at64 0 .truncate .wrap, at64 8 .truncate .clamp, at64 8 .nearest .clamp,
      at64 8 .nearest .wrap, .rawFormat].map fun f =>
        (f.present (BitVec.ofInt 72 (2 ^ 71 - 1)), f.clamped (BitVec.ofInt 72 (2 ^ 71 - 1)))) =
    [(2 ^ 63 - 1, true), (-1, false), (2 ^ 63 - 1, false), (2 ^ 63 - 1, true), (-2 ^ 63, false),
     (2 ^ 71 - 1, false)] := by decide

/-! ### Time: the worked sequence of 4.7 and the expiry of 9.9 -/

theorem test_tick_counts_down :
    let t := after .tick (base.setTick 1000)
    t.tick = 1001 ∧ (t.group 1).countdown = some 1 ∧ (t.session 0).lease = some { length := 64, remaining := 63 } := by decide

theorem test_tick_wraps : (after .tick (base.setTick 0xFFFFFFFF)).tick = 0 := by decide

/-- The state after the tick that brings G1 to its boundary. -/
def atBoundary : State := after .tick (after .tick ((base.setSession 1 Session.reset).setTick 1000))

theorem test_boundary_reloads :
    let t := after (.boundary 1) atBoundary
    t.group 1 = { period := 4, countdown := some 4, boundaryCount := 18, owner := some 0, boundaryDue := false } ∧
    t.notice 1 = some { group := 1, count := 18, tick := 1002 } := by decide

theorem test_boundary_needs_countdown_0 : after (.boundary 1) base = base := by decide

theorem test_notice_claims_bound_records :
    let t := after (.boundaryNotice 1) (after (.boundary 1) atBoundary)
    t.claims 0 = [{ group := 1, count := 18, tick := 1002 }] ∧ t.claims 31 = [] ∧ t.notice 1 = none := by decide

/-- `base` with a close claim of G1 held for A0. -/
def claimed : State := base.setClaims 0 [{ group := 1, count := 18, tick := 1002 }]

theorem test_closeClaim_closes :
    let t := after (.closeClaim 0) claimed
    (t.acc 0).map (fun r => (r.openSequence, r.live, r.count)) = some (6, 0, 0) ∧
    ((t.acc 0).map (·.ring.getLast?)) = some (some
      { sequence := 5, value := 100, count := 3, saturated := false, cause := .scheduled 1 18, tick := 1002 }) ∧
    (t.events 2)[0]? = some ⟨.windowClosed 0 5 false, 1002⟩ := by decide

theorem test_closeClaim_stale : after (.closeClaim 31) (base.setClaims 31 [{ group := 1, count := 18, tick := 1002 }]) =
    base := by decide

theorem test_leaseLow_below_a_quarter :
    (opened 7 64 16).leaseLow = false ∧ (opened 7 64 15).leaseLow = true := by decide

theorem test_leaseExpiry_orphans_and_disowns :
    let t := after (.leaseExpiry 0) (base.setSession 0 { opened 7 64 1 with tickOwed := true })
    (t.session 0).lastEnd = .expiry ∧ (t.session 0).number = 7 ∧ (t.acc 0).map (·.owner) = some none ∧
    (t.group 1).owner = none ∧ (t.group 1).countdown = some 2 ∧ t.events 1 = [⟨.accOrphaned 0, 0⟩] := by decide

theorem test_expiry_after_handovers :
    let s := base.setSession 2 { opened 7 64 1 with tickOwed := true }
    let t := after (.portSessionEnd 2) (after (.eventQueueSessionEnd 2) (after (.engineSessionEnd 2)
      (after (.leaseExpiry 2) s)))
    t.header 2 = 0x04 ∧ t.attention 2 = false ∧ (t.session 2).ending = false ∧ t.monitor 0 = none := by decide

/-! ### Reset -/

theorem test_deviceReset : (after .deviceReset base).pool = 256 ∧ (after .deviceReset base).acc 0 = none ∧
    after .tick (after .deviceReset base) = after .deviceReset base := by decide

theorem test_resetnReturnsHigh : after .resetnReturnsHigh (after .deviceReset base) = State.reset := by decide

/-! ### Framing: 10.2, 10.3 and the sequence of 10.8 -/

theorem test_transaction_of_resync :
    let s := ([0xFF, 0x00, 0x00, 0x2B] : List Byte).foldl (fun s b => after (.byteShifted 0 b) s)
      (after (.transactionStart 0) base)
    s.judged 0 = .resync ∧ ((after (.resync 0) s).session 0).lastEnd = .resync := by decide

theorem test_null_refreshes :
    ((after (.null 1) (receiving base 1 [0, 0, 0, 0])).session 1).lease = some { length := 16, remaining := 16 } := by decide

theorem test_null_takes_only_a_null : after (.null 1) (receiving base 1 [0, 0, 0, 1]) = receiving base 1 [0, 0, 0, 1] := by
  decide

theorem test_bad_crc_is_refused :
    let t := after (.transactionEnd 1) (receiving base 1 [0x03, 0x00, 0x00, 0x2B])
    (t.port 1).refused = true ∧ (t.port 1).cause = .frame ∧ (t.session 1).lease = some { length := 16, remaining := 1 } := by
  decide

theorem test_queue_full_is_refused :
    let s := receiving base 1 (sent 0x03 9 [])
    let t := after (.transactionEnd 1) (s.setPort 1 { s.port 1 with reservations := 8 })
    (t.port 1).cause = .queueFull ∧ (t.port 1).requests = [] ∧
    (t.session 1).lease = some { length := 16, remaining := 16 } := by decide

theorem test_byteShifted_sends_no_response :
    let s := after (.transactionStart 0) base
    let t := after (.byteShifted 0 0x00) s
    (t.port 0).sdo = some 0x20 ∧ ((after (.byteShifted 0 0x00) t).port 0).sdo = some 0x00 := by decide

theorem test_last_crc_byte_delivers :
    let s := base.setPort 0 { base.port 0 with responses := [{ tag := 1, status := .ok, payload := [] }] }
    let run : Nat → State := fun n => (List.replicate n 0x00#8).foldl (fun s b => after (.byteShifted 0 b) s)
      (after (.transactionStart 0) s)
    ((run 4).port 0).responses.length = 1 ∧ ((run 5).port 0).responses = [] := by decide

theorem test_badKind : replies base 0 .openSession [0, 16] = [(.alreadyOpen, [])] ∧
    ((after (.badKind 0) (base.setPort 0 { base.port 0 with
      requests := [{ kind := 0x04, tag := 7, payload := [] }], reservations := 1 })).port 0).responses =
      [{ tag := 7, status := .badKind, payload := [] }] := by decide

theorem test_badKind_of_null_with_payload :
    ((after (.badKind 3) (base.setPort 3 { base.port 3 with
      requests := [{ kind := 0x00, tag := 7, payload := [1] }], reservations := 1 })).port 3).responses =
      [{ tag := 7, status := .badLength, payload := [] }] := by decide

/-! ### Sessions: 9.3 to 9.9 -/

theorem test_open_takes_the_next_number :
    replies (base.setSession 3 { Session.reset with number := 7, lastEnd := .expiry }) 3 .openSession [0, 128] =
      [(.ok, [0, 8, 2])] := by decide

theorem test_open_refuses_short_lease : replies base 3 .openSession [0, 15] = [(.badField, [])] := by decide

theorem test_close_answers_last :
    let t := served base 0 .closeSession []
    (t.port 0).responses = [] ∧
    ((after (.portSessionEnd 0) t).port 0).responses = [{ tag := 7, status := .ok, payload := [0, 1] }] := by decide

theorem test_status_reports : replies (base.setTick 0x01020304) 0 .portStatus [] =
    [(.ok, [0x01, 0, 1, 0, 64, 0, 64, 0x00, 1, 2, 3, 4])] := by decide

theorem test_status_in_closed : replies base 3 .portStatus [] = [(.noSession, [])] := by decide

theorem test_engineSessionEnd :
    let s := (base.setSession 1 { Session.reset with number := 2, atEngine := true }).setJobs 1 [jobOf 1 2 .fence]
    let t := after (.engineSessionEnd 1) (s.setRunning (some (jobOf 1 2 .fence)))
    t.jobs 1 = [] ∧ t.running.map (·.mark) = some .discard := by decide

theorem test_eventQueueSessionEnd :
    (after (.eventQueueSessionEnd 1) ((base.setSession 1 { Session.reset with atEvents := true }).setEvents 1
      [⟨.eventsLost 3, 0⟩])).events 1 = [] := by decide

/-! ### Accumulators and sharing: chapters 1 and 2 -/

theorem test_create_any_takes_lowest :
    let t := served base 1 .accCreate [0xFF, 0x0F, 0x0F, 32]
    (t.port 1).responses.map (·.payload) = [[1]] ∧ t.pool = 222 ∧
    (t.acc 1).map (fun r => (r.owner, r.openSequence, r.policies.mode, r.policies.orphanPolicy)) =
      some (some 1, 1, .unsigned, .drop) := by decide

theorem test_create_in_use : replies base 1 .accCreate [0, 0, 0, 0] = [(.inUse, [])] := by decide

theorem test_configure_mode_needs_empty :
    replies base 0 .accConfigure [0, 0x01, 0x0F] = [(.notEmpty, [])] ∧
    replies base 0 .accConfigure [0, 0x0E, 0x0F] = [(.ok, [])] := by decide

theorem test_release_frees_and_tells :
    let t := served base 0 .accRelease [0]
    t.acc 0 = none ∧ t.pool = 256 ∧ t.events 1 = [⟨.accGone 0 .released, 0⟩] ∧
    t.events 2 = [⟨.accGone 0 .released, 0⟩, ⟨.monitorDetached 0 0 .released, 0⟩] := by decide

theorem test_release_of_another : replies base 1 .accRelease [0] = [(.notOwner, [])] := by decide

theorem test_info_reports : replies base 1 .accInfo [0] =
    [(.ok, [0x01, 0x00, 0x00, 0x01, 0, 0, 0, 0, 0, 5, 0, 0, 0, 3, 0x02, 2, 2, 0, 0, 0, 0, 0, 3, 0x02, 0x04, 0xFF])] := by
  decide

theorem test_info_of_free : replies base 1 .accInfo [1] = [(.ok, [0x00])] := by decide

theorem test_grant_remove_detaches :
    let t := served (base.setMonitor 0 (some { watch with owner := 1 })) 0 .accGrant [0, 1, 0x01]
    t.events 1 = [⟨.rightsChanged 0 false, 0⟩, ⟨.monitorDetached 0 0 .accessLost, 0⟩] ∧
    (t.monitor 0).map (·.armed) = some false ∧ (t.port 0).responses.map (·.status) = [.ok] := by decide

theorem test_grant_to_closed_port : replies base 0 .accGrant [0, 3, 0x00] = [(.badField, [])] := by decide

theorem test_offer_replaces :
    let s := base.setAcc 0 (some { shared with offer := some { port := 1, keep := false } })
    let t := served s 0 .accOffer [0, 1, 0x01]
    t.events 1 = [⟨.offerWithdrawn 0, 0⟩, ⟨.offer 0 0 true, 0⟩] ∧
    (t.acc 0).map (·.offer) = some (some { port := 1, keep := true }) := by decide

theorem test_offer_by_another : replies base 2 .accOffer [0, 1, 0x01] = [(.notOwner, [])] := by decide

theorem test_accept_transfers :
    let s := base.setAcc 0 (some { shared with offer := some { port := 1, keep := true } })
    let t := served s 1 .accAccept [0]
    (t.acc 0).map (fun r => (r.owner, r.contributors, r.offer)) = some (some 1, #v[true, false, false, false], none) ∧
    t.events 0 = [⟨.accClaimed 0 1, 0⟩] ∧ t.events 2 = [⟨.accClaimed 0 1, 0⟩] := by decide

theorem test_accept_without_offer : replies base 1 .accAccept [0] = [(.noOffer, [])] := by decide

theorem test_claim_of_orphan :
    let t := served base 2 .accClaim [31]
    (t.acc 31).map (·.owner) = some (some 2) ∧ t.events 1 = [⟨.accClaimed 31 2, 0⟩] ∧ t.events 2 = [] := by decide

theorem test_claim_race_lost : replies base 2 .accClaim [0] = [(.alreadyOwned, [])] := by decide

theorem test_subscribe_from_oldest :
    replies base 1 .subscribe [0, 0x02, 0x8F, 0x00] = [(.ok, [0, 0, 0, 0, 0, 3, 0, 0, 0, 0, 0, 5])] := by decide

theorem test_subscribe_private :
    replies (base.setAcc 31 (some { orphan with policies := shared.policies })) 2 .subscribe [31, 0x00, 0x00, 0x03] =
      [(.notAuthorised, [])] := by decide

theorem test_unsubscribe_detaches :
    let t := served base 2 .unsubscribe [0]
    t.events 2 = [⟨.monitorDetached 0 0 .accessLost, 0⟩] ∧ (t.acc 0).map (·.reader 2) = some none := by decide

theorem test_unsubscribe_without_entry : replies base 1 .unsubscribe [0] = [(.notSubscribed, [])] := by decide

/-! ### The engine: 3.2, 3.9 and 4.7 -/

theorem test_accumulate_granted_at_once :
    let t := served base 2 .accumulate [3, 0x01, 0, 0, 0, 2, 0, 0, 0, 3]
    t.running = some (jobOf 2 0xFFFF (.accumulate 3 [(2, 3)] false none)) ∧ t.grantPointer = 2 ∧
    ((t.port 2).reservations, (t.port 2).requests) = (1, []) := by decide

theorem test_accumulate_waits_for_a_place :
    let s := (base.setRunning (some (jobOf 0 1 .fence))).setJobs 1 (List.replicate 4 (jobOf 1 2 .fence))
    let t := served s 1 .accumulate [3, 0x01, 0, 0, 0, 2, 0, 0, 0, 3]
    (t.jobs 1).length = 4 ∧ (t.port 1).requests.length = 1 ∧ (t.port 1).holding = true := by decide

theorem test_accumulate_operands :
    accumulateOperands [3, 0xC1, 0, 0, 0, 20, 0, 0, 0, 25, 0, 0, 0, 0, 0, 40] =
      .ok (.accumulate 3 [(20, 25)] true (some 40)) ∧
    accumulateOperands [3, 0x11, 0] = .error .badField ∧ accumulateOperands [3, 0x10, 0] = .error .badLength ∧
    accumulateOperands [3, 0x21, 0, 0, 0, 2, 0, 0, 0, 3] = .error .badField := by decide

theorem test_load_operands :
    loadOperands [3, 0x40, 0, 0, 0, 0, 0, 0, 0x11, 0x94, 0, 0, 0, 0, 0, 40] = .ok (.load 3 4500 (some 40)) ∧
    loadOperands [3, 0x80, 0, 0, 0, 0, 0, 0, 0x11, 0x94] = .error .badField := by decide

theorem test_load_queues : (served (base.setRunning (some (jobOf 0 1 .fence))) 1 .load
    [0, 0, 0, 0, 0, 0, 0, 0, 0, 9]).jobs 1 = [jobOf 1 2 (.load 0 9 none)] := by decide

theorem test_closeWindow_queues :
    (served (base.setRunning (some (jobOf 0 1 .fence))) 1 .closeWindow [31]).jobs 1 = [jobOf 1 2 (.close 31)] := by decide

theorem test_fence_queues :
    (served (base.setRunning (some (jobOf 0 1 .fence))) 1 .fence []).jobs 1 = [jobOf 1 2 .fence] := by decide

theorem test_grant_rotates :
    let s := ((base.setJobs 1 [jobOf 1 2 (.close 0), jobOf 1 2 .fence]).setJobs 2 [jobOf 2 0xFFFF .fence]).setPointer 2
    let t := after .grant s
    t.running = some (jobOf 1 2 (.close 0)) ∧ t.jobs 1 = [jobOf 1 2 .fence] ∧ t.grantPointer = 1 := by decide

theorem test_grant_waits_while_busy :
    let s := runs (base.setJobs 1 [jobOf 1 2 .fence]) (jobOf 0 1 .fence)
    after .grant s = s := by decide

theorem test_completion_window_passed :
    ((after .jobCompletion (runs base (jobOf 1 2 (.accumulate 0 [(20, 25)] true (some 4))))).port 1).responses =
      [{ tag := 7, status := .windowPassed, payload := [0, 0, 0, 0, 0, 5] }] := by decide

theorem test_completion_closes_manually :
    let t := after .jobCompletion (runs base (jobOf 0 1 (.close 0)))
    (t.port 0).responses = [{ tag := 7, status := .ok, payload := [0, 0, 0, 0, 0, 5, 0, 0, 0, 3, 0] }] ∧
    (t.acc 0).map (·.ring.map (·.sequence)) = some [4, 5] := by decide

theorem test_cancel_queued :
    let s := (base.setJobs 1 [jobOf 1 2 .fence]).setPort 1 { base.port 1 with
      requests := [request .jobCancel [7]], reservations := 2 }
    let t := after (.jobCancel 1) s
    t.jobs 1 = [] ∧ (t.port 1).responses.map (·.status) = [.cancelled, .ok] := by decide

theorem test_cancel_running : (served (base.setRunning (some (jobOf 1 2 .fence))) 1 .jobCancel [7]).running.map (·.mark) =
    some .cancel := by decide

/-! ### Reading: the sections 5.8, 6.5.4 and 11.5 -/

theorem test_readLive_115 :
    let s := base.setAcc 0 (some { shared with live := 369118752, count := 4, openSequence := 6 })
    replies s 2 .readLive [0] = [(.ok, [0x00, 0x00, 0, 0, 0, 0, 0, 6, 0, 0, 0, 4, 0x2C, 0x00])] := by decide

theorem test_readLive_115_raw :
    let s := base.setAcc 0 (some { shared with live := 3969118752, count := 8, openSequence := 6 })
    replies s 2 .readLive [0, 0x00, 0x03] = [(.ok, [0x03, 0x00, 0, 0, 0, 0, 0, 6, 0, 0, 0, 8,
      0x00, 0x00, 0x00, 0x00, 0x00, 0xEC, 0x93, 0xF2, 0x20])] := by decide

/-- A ring of records of G0, each of 64 pairs. -/
def ringOf (l : List (Sequence × Wide)) : List ClosedRecord :=
  l.map fun x => { sequence := x.1, value := x.2, count := 64, saturated := false, cause := .scheduled 0 0, tick := 0 }

/-- A20 of section 5.8 after step 2, its readers' format RAW. -/
def a20 : Accumulator :=
  { shared with
    owner := some 2, depth := 3, openSequence := 38, ring := ringOf [(35, 5050), (36, 4980), (37, 5120)]
    readers := #v[some { cursor := 32, notify := false, format := .rawFormat },
                  some { cursor := 36, notify := true, format := .rawFormat }, none, none] }

theorem test_readHistory_58_overrun :
    let t := served (base.setAcc 20 (some a20)) 0 .readHistory [20, 4]
    ((t.port 0).responses.map fun r => r.payload.take 20) =
      [[0x01, 3, 0, 0, 0, 0, 0, 3, 0, 0, 0, 0, 0, 38, 0, 0, 0, 0, 0, 38]] ∧
    ((t.acc 20).bind (·.reader 0)).map (·.cursor) = some 38 := by decide

theorem test_readHistory_58_maximum :
    (replies (base.setAcc 20 (some a20)) 1 .readHistory [20, 1]).map (fun r => r.2.take 26) =
      [[0x00, 1, 0, 0, 0, 0, 0, 0, 0, 0, 0, 0, 0, 37, 0, 0, 0, 0, 0, 38, 0, 0, 0, 0, 0, 36]] := by decide

theorem test_readRecord_58_not_held :
    replies (base.setAcc 20 (some a20)) 1 .readRecord [20, 0, 0, 0, 0, 0, 33] = [(.notHeld, [])] := by decide

theorem test_readRecord_manual :
    replies base 2 .readRecord [0, 0, 0, 0, 0, 0, 3] =
      [(.ok, [0, 0, 0, 0, 0, 3, 0x02, 0x00, 0, 0, 0, 64, 0, 0, 0, 0, 0, 0, 0, 9, 0, 0])] := by decide

theorem test_resize_58_shrinks :
    let s := (base.setAcc 20 (some { a20 with depth := 6 })).setPool 100
    let t := served s 2 .historyResize [20, 2]
    (t.port 2).responses.map (·.payload) = [[2, 2, 0x01, 0, 0, 0, 0, 0, 36, 0, 104]] ∧ t.pool = 104 := by decide

theorem test_resize_51_no_space :
    replies ((base.setAcc 6 (some { a20 with depth := 4 })).setPool 5) 2 .historyResize [6, 12] =
      [(.noHistorySpace, [])] := by decide

/-! ### Groups: 4.2 and 4.7 -/

/-- `base` with G1 STOPPED. -/
def stopped : State := base.setGroup 1 { base.group 1 with countdown := none }

theorem test_groupStart_with_phase : replies (stopped.setTick 1000) 0 .groupStart [1, 0, 2] = [(.ok, [0, 2, 0, 0, 3, 0xE8])] ∧
    ((served stopped 0 .groupStart [1, 0, 2]).group 1).countdown = some 2 := by decide

theorem test_groupStart_phase_above_period : replies stopped 0 .groupStart [1, 0, 5] = [(.badField, [])] := by decide

theorem test_groupSet : ((served stopped 0 .groupSet [1, 0xFF, 0xFF]).group 1).period = 65535 ∧
    replies base 0 .groupSet [1, 0, 1] = [(.busy, [])] := by decide

theorem test_groupStop : replies base 0 .groupStop [1] = [(.ok, [0, 2])] ∧
    (served base 0 .groupStop [1]).group 1 = stopped.group 1 := by decide

theorem test_groupClaim : ((served base 2 .groupClaim [3]).group 3).owner = some 2 ∧
    replies base 2 .groupClaim [1] = [(.alreadyOwned, [])] := by decide

theorem test_groupRelease : (served base 0 .groupRelease [1]).group 1 = { base.group 1 with owner := none } ∧
    replies base 2 .groupRelease [1] = [(.notOwner, [])] := by decide

theorem test_groupInfo : replies base 2 .groupInfo [1] = [(.ok, [0x01, 0, 0, 4, 0, 2, 0, 0, 0, 17, 0, 0, 0, 0])] := by decide

/-! ### Monitors: the sequence of 7.6 -/

/-- The payload of MON_CREATE for the band of section 7.6. -/
def monPayload (a : Byte) : List Byte :=
  [a, 0x1E, 0, 0, 0, 0, 0, 0, 0x03, 0xE8, 0, 0, 0, 0, 0, 0, 0x13, 0x88, 0, 0, 0x01, 0xF4]

theorem test_monCreate :
    let t := served base 1 .monCreate (monPayload 0)
    (t.port 1).responses.map (·.payload) = [[1]] ∧ t.monitor 1 = some { watch with owner := 1 } := by decide

theorem test_monCreate_bounds : replies base 1 .monCreate ((monPayload 0).take 20 ++ [0x07, 0xD1]) = [(.badField, [])] := by
  decide

theorem test_monAttach_rearms :
    (served (base.setMonitor 0 (some { watch with armed := false, region := .below })) 2 .monAttach [0, 0]).monitor 0 =
      some watch := by decide

theorem test_monAttach_armed : replies base 2 .monAttach [0, 0] = [(.badState, [])] := by decide

theorem test_monFree : (served base 2 .monFree [0]).monitor 0 = none ∧
    replies base 1 .monFree [0] = [(.notOwner, [])] := by decide

theorem test_monInfo : replies base 1 .monInfo [0] =
    [(.ok, [0x01, 2, 0, 0x1E, 0x00, 0, 0, 0, 0, 0, 0, 0x03, 0xE8, 0, 0, 0, 0, 0, 0, 0x13, 0x88, 0, 0, 0x01, 0xF4])] := by
  decide

theorem test_regions_76 :
    let f := watch.config.regionAfter
    [f .unknown 800, f .below 1700, f .inside 5300, f .above 4800, f .above 4500, f .inside 0, f .below 1200,
      f .unknown 2300] = [.below, .inside, .above, .above, .inside, .below, .below, .inside] := by decide

theorem test_threshold_to_owner_and_readers :
    let t := after .jobCompletion (runs (base.setMonitor 0 (some { watch with owner := 1 }))
      (jobOf 0 1 (.accumulate 0 (pairs [(25, 20)]) false none)))
    t.events 1 = [⟨.threshold 0 0 .below 600, 0⟩] ∧ t.events 2 = [⟨.threshold 0 0 .below 600, 0⟩] ∧ t.events 0 = [] := by
  decide

/-! ### Event queues: the sequence of 8.5 -/

/-- A queue of `n` events. -/
def queueOf (n : Nat) : List EventRecord := List.replicate n ⟨.accOrphaned 0, 0⟩

theorem test_overflow_begins_the_marker :
    ((base.setTick 5000).setEvents 0 (queueOf 15)).post 0 (.accOrphaned 1) =
      (base.setTick 5000).setEvents 0 (queueOf 15 ++ [⟨.eventsLost 1, 5000⟩]) := by decide

theorem test_marker_counts_with_room :
    ((base.setTick 6000).setEvents 0 (queueOf 7 ++ [⟨.eventsLost 4, 5000⟩])).post 0 (.rightsChanged 4 true) =
      (base.setTick 6000).setEvents 0 (queueOf 7 ++ [⟨.eventsLost 5, 5000⟩]) := by decide

theorem test_fetch_takes_eight :
    let s := base.setEvents 0 (queueOf 15 ++ [⟨.eventsLost 4, 5000⟩])
    (served s 0 .eventFetch [8]).events 0 = queueOf 7 ++ [⟨.eventsLost 4, 5000⟩] ∧
    (replies s 0 .eventFetch [8]).map (fun r => (r.1, r.2.take 2, r.2.length)) = [(.ok, [8, 8], 130)] := by decide

theorem test_event_record_bytes :
    EventRecord.bytes ⟨.threshold 2 8 .below 0xFFFFFFFFFFFFFFFF, 0x01020304⟩ =
      [0x02, 2, 8, 0x03, 0xFF, 0xFF, 0xFF, 0xFF, 0xFF, 0xFF, 0xFF, 0xFF, 1, 2, 3, 4] ∧
    EventRecord.bytes ⟨.eventsLost 5, 5000⟩ =
      [0x0B, 0xFF, 0xFF, 0, 0, 0, 0, 0, 0, 0, 0, 5, 0, 0, 0x13, 0x88] := by decide

/-! ### Witnesses: the queue, the spelling and the invariants -/

theorem witness_StepRunsTheFrontCommand :
    (base.setPending [.tick, .grant]).pending = .tick :: [.grant] ∧ base.pending = [] := by decide

theorem witness_SpellingsAreExact : (RawCommand.mk 49 [3, 255]).command? = some (.byteShifted 3 255) := by decide

theorem shared_fits : shared.HistoryFits := by
  show _ ∧ _ ∧ _ ∧ ∀ p, ∀ e ∈ shared.reader p, _
  decide

theorem orphan_fits : orphan.HistoryFits := by
  show _ ∧ _ ∧ _ ∧ ∀ p, ∀ e ∈ orphan.reader p, _
  decide

theorem base_portsFit : base.PortsFit := by
  show ∀ p, _ ∧ _ ∧ _
  decide

theorem base_eventsFit : base.EventsFit := by
  have h : ∀ p, base.events p = [] := by decide
  intro p
  rw [h p]
  exact ⟨by decide, by decide, by simp⟩

theorem base_poolBalanced : base.PoolBalanced := by
  show _ ∧ _
  decide

theorem base_historiesFit : base.HistoriesFit := by
  show ∀ a, ∀ r ∈ base.acc a, _ ∧ _ ∧ _ ∧ ∀ p, ∀ e ∈ r.reader p, _
  decide

theorem base_sessionsFit : base.SessionsFit := by
  show ∀ p, ((∀ l ∈ (base.session p).lease, _) ∧ _) ∧ _
  decide

theorem base_closedQueuesEmpty : base.ClosedQueuesEmpty := by
  show ∀ p, _
  decide

theorem base_standingSound : base.StandingSound := by
  show ∀ a, ∀ r ∈ base.acc a, (∀ p, _) ∧ (∀ p, _) ∧ (∀ p, _) ∧ ∀ o ∈ r.offer, _
  decide

theorem base_monitorsSound : base.MonitorsSound := by
  show ∀ i, ∀ m ∈ base.monitor i, _ ∧ _ ∧ (_ → ∃ r, r ∈ base.acc m.acc ∧ _)
  decide

theorem base_groupsSound : base.GroupsSound := by
  show ∀ g, _ ∧ _ ∧ (∀ c ∈ (base.group g).countdown, _) ∧ _ ∧ _
  decide

theorem base_boundariesOnce : base.BoundariesOnce := by
  show (∀ g, _) ∧ (∀ g, ∀ b ∈ base.notice g, _) ∧ (∀ g, _ → ∀ a, ∀ b ∈ base.claims a, _) ∧ (∀ a, _) ∧ ∀ a, _
  decide

theorem base_jobsFit : base.JobsFit := by
  show ∀ p, _ ∧ ∀ j ∈ base.jobs p, _
  decide

theorem witness_StepKeepsSound : base.Sound ∧ ∃ t, step (base.setPending [.tick]) = .next t :=
  ⟨⟨base_portsFit, base_eventsFit, base_poolBalanced, base_historiesFit, base_sessionsFit, base_closedQueuesEmpty,
    base_standingSound, base_monitorsSound, base_groupsSound, base_boundariesOnce, base_jobsFit,
    fun h => absurd h (by decide)⟩, _, rfl⟩

/-- A port at each of its limits. -/
def fullPort : PortRecord :=
  { PortRecord.reset with
    framing := .selected, kept := List.replicate 140 0, received := 200
    requests := List.replicate 4 (request .fence []), reservations := 7
    responses := [{ tag := 1, status := .ok, payload := [] }] }

theorem witness_StepKeepsPortLimits : ((base.setPort 3 fullPort).setPending [.byteShifted 3 0]).PortsFit ∧
    ∃ t, step ((base.setPort 3 fullPort).setPending [.byteShifted 3 0]) = .next t := by
  refine ⟨?_, _, rfl⟩
  show ∀ p, _ ∧ _ ∧ _
  decide

/-- A full queue: 15 events, and the marker at its greatest count. -/
def fullQueue : List EventRecord := queueOf 15 ++ [⟨.eventsLost 65535, 5000⟩]

theorem fullQueue_fits : QueueFits fullQueue := by
  refine ⟨by decide, by decide, ?_⟩
  simp [fullQueue, queueOf, EventRecord.CountFits]

theorem witness_StepKeepsEventQueueShape :
    ((base.setEvents 1 fullQueue).setPending [.closeClaim 0]).EventsFit ∧
    ∃ t, step ((base.setEvents 1 fullQueue).setPending [.closeClaim 0]) = .next t := by
  refine ⟨fun p => ?_, _, rfl⟩
  by_cases h : p = 1
  · subst h; exact fullQueue_fits
  · show QueueFits ((base.setEvents 1 fullQueue).events p)
    rw [State.setEvents_events_ne _ _ h]
    exact base_eventsFit p

theorem witness_StepKeepsPoolTotal :
    ((((base.setAcc 7 (some { shared with depth := 32 })).setPool 222)).setPending [.closeClaim 7]).PoolBalanced ∧
    ∃ t, step (((base.setAcc 7 (some { shared with depth := 32 })).setPool 222).setPending [.closeClaim 7]) =
      .next t := by
  refine ⟨?_, _, rfl⟩
  show _ ∧ _
  decide

theorem witness_StepKeepsHistories : (base.setPending [.closeClaim 0]).HistoriesFit ∧
    ∃ t, step (base.setPending [.closeClaim 0]) = .next t := ⟨base_historiesFit, _, rfl⟩

/-! ### Witnesses: reset and time -/

theorem witness_DeviceResetRestoresEveryBlock :
    (after .deviceReset base).resetLow = true ∧ base.resetLow = false := by decide

theorem witness_NothingMovesWhileResetnLow :
    (after .deviceReset base).HeldInReset ∧ (after .deviceReset base).resetLow = true ∧
    (∀ p, Instr.tick ≠ .transactionStart p ∧ Instr.tick ≠ .transactionEnd p) ∧ Instr.tick ≠ .resetnReturnsHigh := by
  refine ⟨fun _ => ?_, by decide⟩
  decide

/-- Countdowns 1, 2 and 65535 and leases of remaining 1, 2 and 8192 in one state. -/
def ticking : State :=
  ((base.setGroup 0 { Group.reset with period := 65535, countdown := some 65535 }).setGroup 2
    { Group.reset with period := 1, countdown := some 1, boundaryCount := 0xFFFFFFFF }).setSession 0 (opened 9 8192 8192)

theorem witness_TickCountsDown :
    ticking.tickReady = true ∧ (after .tick ticking).tickReady = false ∧ (after .deviceReset base).tickReady = false ∧
    (ticking.group 0).countdown = some 65535 ∧ (ticking.group 1).countdown = some 2 ∧
    (ticking.group 2).countdown = some 1 ∧ (ticking.group 3).countdown = none ∧
    (ticking.session 0).lease = some { length := 8192, remaining := 8192 } ∧
    (ticking.session 1).lease = some { length := 16, remaining := 1 } ∧
    (ticking.session 2).lease = some { length := 8192, remaining := 2 } ∧ (ticking.session 3).lease = none := by decide

theorem witness_BoundaryReloadsAndHandsOver :
    (((after .tick ticking).group 2).boundaryDue = true ∧ ((after .tick ticking).group 2).running = true) ∧
    (let s := base.setGroup 3 { Group.reset with boundaryDue := true }
     (s.group 3).boundaryDue = true ∧ (s.group 3).running = false) ∧
    (base.group 0).boundaryDue = false := by decide

theorem witness_BoundaryNoticeFormsClaims :
    (after (.boundary 1) atBoundary).notice 1 = some { group := 1, count := 18, tick := 1002 } ∧
    base.notice 3 = none := by decide

theorem witness_CloseClaimIsJudgedInOrder :
    base.claims 31 = [] ∧
    (let s := base.setClaims 9 [{ group := 3, count := 0, tick := 0 }]
     s.claims 9 = [{ group := 3, count := 0, tick := 0 }] ∧ s.acc 9 = none) ∧
    (claimed.claims 0 = [{ group := 1, count := 18, tick := 1002 }] ∧ claimed.acc 0 = some shared) ∧
    (let s := base.setClaims 31 [{ group := 1, count := 18, tick := 1002 }]
     s.claims 31 = [{ group := 1, count := 18, tick := 1002 }] ∧ s.acc 31 = some orphan ∧
     orphan.openSequence.toNat = 2 ^ 48 - 1) := by decide

theorem witness_LeaseExpiryEndsTheSession :
    (((after .tick ticking).session 1).tickOwed = true ∧
     ((after .tick ticking).session 1).lease = some { length := 16, remaining := 1 }) ∧
    (let s := base.setSession 1 { opened 2 16 2 with tickOwed := true }
     (s.session 1).tickOwed = true ∧ (s.session 1).lease = some { length := 16, remaining := 2 }) ∧
    (let s := base.setSession 3 { Session.reset with tickOwed := true }
     (s.session 3).tickOwed = true ∧ (s.session 3).lease = none) ∧
    (base.session 0).tickOwed = false := by decide

/-! ### Witnesses: transactions and frames -/

theorem witness_TransactionStartCopiesHeadResponse :
    ((base.port 0).selLow = false ∧ base.resetLow = false) ∧
    ((after .deviceReset base).resetLow = true ∧ ((after .deviceReset base).port 3).selLow = false) ∧
    ((after (.transactionStart 3) base).port 3).selLow = true := by decide

/-- P0 in a transaction that began with a response of no payload at the head, `n` bytes in. -/
def delivering (n : Nat) : State :=
  (List.replicate n 0x00#8).foldl (fun s b => after (.byteShifted 0 b) s)
    (after (.transactionStart 0) (base.setPort 0 { base.port 0 with
      responses := [{ tag := 1, status := .ok, payload := [] }], refused := true, cause := .frame }))

theorem witness_ByteShiftedExchangesOneByte :
    (base.port 0).framing = .idle ∧
    (((delivering 0).port 0).framing = .selected ∧ ((delivering 0).port 0).received = 0) ∧
    (let s := after (.byteShifted 1 0) (after (.transactionStart 1) base)
     (s.port 1).framing = .selected ∧ 0 < (s.port 1).received ∧ (s.port 1).delivery = none) ∧
    (((delivering 4).port 0).framing = .selected ∧ 0 < ((delivering 4).port 0).received ∧
     ((delivering 4).port 0).delivery =
       some { response := { tag := 1, status := .ok, payload := [] }, shifted := 3, queued := true }) ∧
    ((delivering 5).port 0).delivery =
       some { response := { tag := 1, status := .ok, payload := [] }, shifted := 4, queued := false } := by decide

theorem witness_DeliveryIsWholeAndOnce :
    ([0, 136] : List Nat).all (fun n =>
      decide ((List.replicate n 0x00#8).length ≤ 136) &&
      decide ({ PortRecord.reset with responses := [{ tag := 1, status := .ok, payload := List.replicate n 0 }] }.responses =
        { tag := 1, status := .ok, payload := List.replicate n 0 } :: [])) = true := by decide

theorem witness_SentFrameIsReadBack : ([] : List Byte).length ≤ 136 ∧ (List.replicate 136 0xFF#8).length ≤ 136 := by decide

theorem witness_SentFrameIsReadBack_dropped : (2 : Nat) ≠ 0 ∧
    ∀ (kind tag : Byte) (payload filler : List Byte), payload.length ≤ 136 →
      ([0x00, 0x00] : List Byte) ≠ kind :: tag :: byte payload.length :: payload ++
        crc8 (kind :: tag :: byte payload.length :: payload) :: filler := by
  refine ⟨by decide, fun _ _ _ _ _ h => ?_⟩
  simp at h

theorem witness_TransactionEndJudgesTheFrame :
    (base.port 3).framing = .idle ∧
    (receiving base 3 []).judged 3 = .nothing ∧
    (receiving base 3 [0x03, 0x00]).judged 3 = .dropped ∧
    (receiving base 3 [0x00, 0x00, 0x00, 0x00]).judged 3 = .null ∧
    (receiving base 3 [0xFF, 0x00, 0x00, 0x2B]).judged 3 = .resync ∧
    (receiving base 3 (sent 0x03 7 [])).judged 3 = .offered (request .portStatus []) ∧
    ((receiving base 3 (sent 0x03 7 [])).port 3).framing = .selected := by decide

theorem witness_TransactionEndJudgesTheFrame_room :
    let at' : Nat → Nat → State := fun n m => (receiving base 3 (sent 0x03 7 [])).setPort 3
      { (receiving base 3 (sent 0x03 7 [])).port 3 with
        requests := List.replicate n (request .fence []), reservations := m }
    (at' 3 7).judged 3 = .offered (request .portStatus []) ∧ (at' 4 7).judged 3 = .offered (request .portStatus []) ∧
    (at' 3 8).judged 3 = .offered (request .portStatus []) ∧
    ((after (.transactionEnd 3) (at' 3 7)).port 3).requests.length = 4 ∧
    ((after (.transactionEnd 3) (at' 4 7)).port 3).requests.length = 4 ∧
    ((after (.transactionEnd 3) (at' 3 8)).port 3).requests.length = 3 := by decide

theorem witness_NullAndResyncActAtOnce :
    (((receiving base 1 [0, 0, 0, 0]).port 1).framing = .selected ∧ (receiving base 1 [0, 0, 0, 0]).judged 1 = .null) ∧
    ((receiving base 1 [0xFF, 0, 0, 0x2B]).judged 1 = .resync ∧
     ((receiving base 1 [0xFF, 0, 0, 0x2B]).session 1).isOpen = true) ∧
    ((receiving base 3 [0xFF, 0, 0, 0x2B]).judged 3 = .resync ∧
     ((receiving base 3 [0xFF, 0, 0, 0x2B]).session 3).isOpen = false) ∧
    (base.port 0).framing = .idle ∧ (receiving base 1 [0, 0, 0, 1]).judged 1 ≠ .null ∧
    (receiving base 1 [0, 0, 0, 1]).judged 1 ≠ .resync := by decide

/-! ### Witnesses: the decoder -/

theorem witness_UndefinedKindIsAnswered :
    (base.port 0).requests = [] ∧
    (∀ k : Kind, (0x04#8 : Byte) ≠ k.code) ∧ (∀ k : Kind, (0x00#8 : Byte) ≠ k.code) ∧
    (∀ k : Kind, (0xFF#8 : Byte) ≠ k.code) ∧
    (let f : Frame := { kind := 0xFF, tag := 7, payload := [1] }
     ((base.setPort 3 { base.port 3 with requests := [f] }).port 3).requests.head? = some f) ∧
    ((ask base 0 .eventFetch [1]).port 0).requests.head? = some (request .eventFetch [1]) ∧
    (request .eventFetch [1]).kind = Kind.eventFetch.code := by
  refine ⟨by decide, ?_, ?_, ?_, by decide, by decide, rfl⟩ <;> intro k <;> cases k <;> decide

theorem witness_ClosedSessionAnswersNoSession :
    Kind.eventFetch ≠ .openSession ∧ (ask base 3 .eventFetch []).HeadIs 3 .eventFetch (request .eventFetch []) ∧
    ((ask base 3 .eventFetch []).session 3).isOpen = false ∧ ((ask base 3 .eventFetch []).port 3).holding = false := by
  decide

theorem witness_DecoderRefusesUndefinedPayloads :
    ([(.accumulate, [3], .badLength), (.accumulate, [3, 0x00], .badField), (.accumulate, [3, 0x11], .badField),
      (.accumulate, [3, 0x10], .badLength), (.load, [3, 0x80, 0, 0, 0, 0, 0, 0, 0, 0], .badField),
      (.accInfo, [32], .badField), (.fence, [0], .badLength), (.eventFetch, [0], .badField), (.eventFetch, [9], .badField),
      (.openSession, [0, 15], .badField), (.openSession, [0x20, 0x01], .badField), (.historyResize, [0, 33], .badField),
      (.groupSet, [3, 0, 0], .badField), (.groupSet, [4, 0, 1], .badField), (.monFree, [16], .badField),
      (.readHistory, [0, 5], .badField), (.subscribe, [0, 4, 0, 3], .badField)] :
        List (Kind × List Byte × Status)).all (fun x =>
      decide ((ask base 0 x.1 x.2.1).HeadIs 0 x.1 (request x.1 x.2.1)) &&
      decide (((ask base 0 x.1 x.2.1).session 0).isOpen = true) &&
      decide (x.1.refusal (request x.1 x.2.1).payload = some x.2.2)) = true := by decide

theorem witness_RequestsWaitTheirTurn :
    (∀ f, ¬ base.HeadIs 3 .accInfo f) ∧ (∀ f, ¬ (ask base 0 .accInfo [0]).HeadIs 0 .accRelease f) := by
  refine ⟨fun f h => ?_, fun f h => ?_⟩
  · exact nomatch (show (none : Option Frame) = some f from h.1)
  · have e : request .accInfo [0] = f := Option.some.inj h.1
    exact absurd h.2 (by rw [← e]; decide)

theorem witness_RequestsWaitTheirTurn_clock :
    let s := ask atBoundary 2 .groupInfo [3]
    Kind.groupInfo ∈ [Kind.groupClaim, .groupSet, .groupStart, .groupStop, .groupRelease, .groupInfo] ∧
    s.Asks 2 .groupInfo (request .groupInfo [3]) ∧ Kind.groupInfo.refusal (request .groupInfo [3]).payload = none ∧
    s.clockReady = false := by decide

theorem witness_RequestsWaitTheirTurn_timer :
    let s := ask (after .tick ticking) 1 .portStatus []
    s.Asks 1 .portStatus (request .portStatus []) ∧ (request .portStatus []).payload = [] ∧
    (s.session 1).tickOwed = true := by decide

/-! ### Witnesses: sessions -/

theorem witness_OpenStartsASession :
    (ask base 3 .openSession [0, 16]).HeadIs 3 .openSession (request .openSession [0, 16]) ∧
    (request .openSession [0, 16]).payload = [0x00, 0x10] ∧ 16 ≤ 256 * (0x00#8).toNat + (0x10#8).toNat ∧
    256 * (0x20#8).toNat + (0x00#8).toNat ≤ 8192 ∧
    (((ask base 3 .openSession [0x20, 0]).session 3).isOpen = false ∧
     ((ask base 3 .openSession [0x20, 0]).session 3).ending = false) ∧
    (((ask base 0 .openSession [0, 16]).session 0).isOpen = true ∧
     ((ask base 0 .openSession [0, 16]).session 0).ending = false) ∧
    ((ask (base.setSession 3 { Session.reset with atPort := true }) 3 .openSession [0, 16]).session 3).ending = true := by
  decide

theorem witness_CloseEndsTheSession :
    (ask base 0 .closeSession []).Asks 0 .closeSession (request .closeSession []) ∧
    (request .closeSession []).payload = [] := by decide

theorem witness_HandOversEmptyTheQueues :
    let s := after (.leaseExpiry 1) (after .tick ticking)
    (s.session 1).atEngine = true ∧ (s.session 1).atEvents = true ∧ (s.session 1).atPort = true ∧
    (base.session 1).atEngine = false ∧ (base.session 1).atEvents = false ∧ (base.session 1).atPort = false := by decide

theorem witness_InfoRequestsReport :
    ((ask base 2 .accInfo [31]).Asks 2 .accInfo (request .accInfo [31]) ∧ [0x1F#8] = [byte (31 : AccIx).val] ∧
     base.acc 31 = some orphan ∧ base.acc 30 = none) ∧
    ((ask base 2 .monInfo [15]).Asks 2 .monInfo (request .monInfo [15]) ∧ [0x0F#8] = [byte (15 : MonIx).val] ∧
     base.monitor 15 = none ∧ base.monitor 0 = some watch) ∧
    ((ask base 2 .groupInfo [3]).Asks 2 .groupInfo (request .groupInfo [3]) ∧ [0x03#8] = [byte (3 : GroupIx).val] ∧
     (ask base 2 .groupInfo [3]).clockReady = true) ∧
    ((ask base 2 .portStatus []).Asks 2 .portStatus (request .portStatus []) ∧
     ((ask base 2 .portStatus []).session 2).lease = some { length := 8192, remaining := 2 } ∧
     ((ask base 2 .portStatus []).session 2).tickOwed = false) := by decide

/-! ### Witnesses: accumulators and sharing -/

/-- Every accumulator record in use. -/
def crowded : State := allAccs.foldl (fun s a => s.setAcc a (some { orphan with depth := 8 })) (base.setPool 0)

theorem witness_AccCreateTakesAFreeRecord :
    ((ask base 2 .accCreate [30, 0, 0x0F, 32]).Asks 2 .accCreate (request .accCreate [30, 0, 0x0F, 32]) ∧
     [30, 0, 0x0F, 32] = CreateArgs.sent { target := some 30, depth := 32, policies :=
       { mode := .signed, closeAction := .clear, readerPolicy := .privateAccess, orphanPolicy := .keep, binding := .manual } } ∧
     (32 : Nat) ≤ 32 ∧
     (ask base 2 .accCreate [30, 0, 0x0F, 32]).acc 30 = none) ∧
    ([0xFF, 0x05, 3, 0] = CreateArgs.sent { target := none, depth := 0, policies :=
       { mode := .unsigned, closeAction := .clear, readerPolicy := .publicAccess, orphanPolicy := .keep
         binding := .group 3 } } ∧
     (∀ b : AccIx, b < 1 → (base.acc b).isSome = true) ∧ base.acc 1 = none) ∧
    ([31, 0, 0, 1] = CreateArgs.sent { target := some 31, depth := 1, policies :=
       { mode := .signed, closeAction := .clear, readerPolicy := .privateAccess, orphanPolicy := .keep
         binding := .group 0 } } ∧ (base.acc 31).isSome = true) ∧
    (∀ a, (crowded.acc a).isSome = true) ∧ (crowded.session 2).isOpen = true := by decide

theorem witness_AccConfigureReplacesPolicies :
    (ask base 0 .accConfigure [0, 0x0F, 3]).Asks 0 .accConfigure (request .accConfigure [0, 0x0F, 3]) ∧
    [0, 0x0F, 3] = byte (0 : AccIx).val :: Policies.sent
      { mode := .unsigned, closeAction := .carry, readerPolicy := .publicAccess, orphanPolicy := .drop
        binding := .group 3 } ∧
    (ask base 0 .accConfigure [0, 0x0F, 3]).acc 0 = some shared ∧
    ([30, 0x08, 0x0F] = byte (30 : AccIx).val :: Policies.sent
      { mode := .signed, closeAction := .clear, readerPolicy := .privateAccess, orphanPolicy := .drop
        binding := .manual } ∧ base.acc 30 = none) := by decide

/-- `base` with an offer of A0 to P1. -/
def offering : State := base.setAcc 0 (some { shared with offer := some { port := 1, keep := true } })

theorem witness_AccReleaseFreesTheRecord :
    (ask offering 0 .accRelease [0]).Asks 0 .accRelease (request .accRelease [0]) ∧
    (request .accRelease [0]).payload = [byte (0 : AccIx).val] ∧
    (offering.acc 0).map (·.owner) = some (some 0) ∧ offering.acc 30 = none := by decide

theorem witness_AccGrantChangesContributors :
    (ask base 0 .accGrant [0, 2, 0x00]).Asks 0 .accGrant (request .accGrant [0, 2, 0x00]) ∧
    [0, 2, 0x00] = GrantArgs.sent { acc := 0, target := 2, remove := false } ∧
    [0, 1, 0x01] = GrantArgs.sent { acc := 0, target := 1, remove := true } ∧
    [30, 3, 0x01] = GrantArgs.sent { acc := 30, target := 3, remove := true } ∧
    base.acc 0 = some shared ∧ base.acc 30 = none := by decide

theorem witness_AccOfferSetsTheOffer :
    (ask offering 0 .accOffer [0, 0xFF, 0x00]).Asks 0 .accOffer (request .accOffer [0, 0xFF, 0x00]) ∧
    [0, 0xFF, 0x00] = OfferArgs.sent { acc := 0, target := none, keep := false } ∧
    [30, 3, 0x01] = OfferArgs.sent { acc := 30, target := some 3, keep := true } ∧
    (offering.acc 0).isSome = true ∧ offering.acc 30 = none := by decide

theorem witness_AccAcceptTransfersOwnership :
    (ask offering 1 .accAccept [0]).Asks 1 .accAccept (request .accAccept [0]) ∧
    (let r : Accumulator := { shared with offer := some { port := 1, keep := true } }
     offering.acc 0 = some r ∧ r.owner = some 0 ∧ r.offer = some { port := 1, keep := true }) ∧ (0 : Port) ≠ 1 ∧
    ((ask base 1 .accAccept [31]).acc 31 = some orphan ∧ orphan.owner = none) ∧
    (∀ o ∈ shared.offer, o.port ≠ 1) ∧ base.acc 30 = none := by decide

theorem witness_AccClaimTakesAnOrphan :
    (ask base 2 .accClaim [31]).Asks 2 .accClaim (request .accClaim [31]) ∧
    (request .accClaim [31]).payload = [byte (31 : AccIx).val] ∧ base.acc 31 = some orphan ∧ base.acc 30 = none := by decide

theorem witness_SubscriptionsComeAndGo :
    ((ask base 1 .subscribe [0, 0x03, 0xCA, 0x00]).Asks 1 .subscribe (request .subscribe [0, 0x03, 0xCA, 0x00]) ∧
     [0, 0x03, 0xCA, 0x00] = SubscribeArgs.sent { acc := 0, next := true, notify := true, format :=
       { shift := 10, rounding := .nearest, width := .w16, limit := .clamp } } ∧
     base.acc 0 = some shared) ∧
    ([30, 0x02, 0x3F, 0x03] = SubscribeArgs.sent { acc := 30, next := false, notify := true, format :=
       { shift := 63, rounding := .truncate, width := .raw, limit := .wrap } } ∧ base.acc 30 = none) ∧
    ((ask base 2 .unsubscribe [0]).Asks 2 .unsubscribe (request .unsubscribe [0]) ∧
     (request .unsubscribe [0]).payload = [byte (0 : AccIx).val]) := by decide

/-! ### Witnesses: the engine -/

theorem witness_JobRequestsQueueJobs :
    ((ask base 2 .accumulate [31, 0xC1, 0, 0, 0, 2, 0x80, 0, 0, 3, 0, 0, 0, 0, 1, 9]).Asks 2 .accumulate
      (request .accumulate [31, 0xC1, 0, 0, 0, 2, 0x80, 0, 0, 3, 0, 0, 0, 0, 1, 9]) ∧
     [31, 0xC1, 0, 0, 0, 2, 0x80, 0, 0, 3, 0, 0, 0, 0, 1, 9] =
      (Work.accumulate 31 [(2, 0x80000003)] true (some 0x109)).sent) ∧
    (([(2, 3)] : List (Word32 × Word32)).length = 1 ∧
     [0, 0x01, 0, 0, 0, 2, 0, 0, 0, 3] = (Work.accumulate 0 [(2, 3)] false none).sent) ∧
    (let pairs : List (Word32 × Word32) := List.replicate 16 (0xFFFFFFFF, 1)
     pairs.length ≤ 16 ∧ (Work.accumulate 1 pairs false (some 0)).sent.length = 136 ∧
     (Work.accumulate 1 pairs false (some 0)).sent.take 6 = [1, 0x50, 0xFF, 0xFF, 0xFF, 0xFF]) ∧
    ((ask base 2 .load [31, 0x00, 0x80, 0, 0, 0, 0, 0, 0, 0]).Asks 2 .load
      (request .load [31, 0x00, 0x80, 0, 0, 0, 0, 0, 0, 0]) ∧
     [31, 0x00, 0x80, 0, 0, 0, 0, 0, 0, 0] = (Work.load 31 0x8000000000000000 none).sent ∧
     [0, 0x40, 0, 0, 0, 0, 0, 0, 0, 1, 0, 0, 0, 0, 0, 2] = (Work.load 0 1 (some 2)).sent) ∧
    ((ask base 2 .closeWindow [31]).Asks 2 .closeWindow (request .closeWindow [31]) ∧ [31] = (Work.close 31).sent) ∧
    (ask base 2 .fence []).Asks 2 .fence (request .fence []) := by decide

theorem witness_JobRequestsQueueJobs_limits :
    let s : Nat → State := fun n => ask (base.setJobs 2 (List.replicate n (jobOf 2 0xFFFF .fence))) 2 .fence []
    (s 3).Asks 2 .fence (request .fence []) ∧ ((s 3).jobs 2).length = 3 ∧ ((s 4).jobs 2).length = 4 ∧
    (s 0).running = none ∧ ∀ q, (s 0).jobs q = [] := by decide

theorem witness_GrantRotates :
    (let s := base.setJobs 3 [jobOf 3 0 .fence]
     s.running = none ∧ s.jobs (s.grantPointer + 1 + 3) = jobOf 3 0 .fence :: [] ∧
     ∀ i : Fin 4, i < 3 → s.jobs (s.grantPointer + 1 + i) = []) ∧
    (let s := base.setJobs 0 [jobOf 0 1 .fence, jobOf 0 1 .fence]
     s.running = none ∧ s.jobs (s.grantPointer + 1 + 0) = jobOf 0 1 .fence :: [jobOf 0 1 .fence] ∧
     ∀ i : Fin 4, i < 0 → s.jobs (s.grantPointer + 1 + i) = []) ∧
    (runs base (jobOf 0 1 .fence)).running ≠ none ∧ ∀ p, base.jobs p = [] := by decide

theorem witness_CompletionTestsInOrder :
    base.running = none ∧
    (runs base { jobOf 1 2 (.close 0) with mark := .discard }).running = some { jobOf 1 2 (.close 0) with mark := .discard } ∧
    ¬ ((base.session 1).isOpen = true ∧ (base.session 1).number = (jobOf 1 1 (.close 0)).session) ∧
    ((base.session 1).isOpen = true ∧ (base.session 1).number = (jobOf 1 2 (.close 0)).session) ∧
    { jobOf 1 2 (.close 0) with mark := .cancel }.mark = .cancel ∧
    ((jobOf 1 2 .fence).mark = .none ∧ (jobOf 1 2 .fence).work = .fence) ∧
    ((jobOf 1 2 (.load 30 0 none)).work.acc? = some 30 ∧ base.acc 30 = none) ∧
    ((jobOf 1 2 (.close 0)).work.acc? = some 0 ∧ base.acc 0 = some shared ∧ shared.owner ≠ some 1) ∧
    (shared.isContributor 1 = true ∧ (jobOf 1 2 (.accumulate 0 [(2, 3)] false (some 4))).work.target? = some 4 ∧
     (4 : Sequence).toNat < shared.openSequence.toNat ∧ shared.openSequence.toNat < (6 : Sequence).toNat) := by decide

theorem witness_AccumulateAddsTheExactPartial :
    let j := jobOf 1 2 (.accumulate 0 (pairs [(20, 25)]) true (some 5))
    let s := runs base j
    s.running = some j ∧ j.mark = .none ∧ (s.session j.port).isOpen = true ∧ (s.session j.port).number = j.session ∧
    s.acc 0 = some shared ∧ shared.isContributor j.port = true ∧ some 5 = some shared.openSequence ∧
    (BitVec.ofInt 72 (-400)).toInt = max (-(2 ^ 71)) (min (2 ^ 71 - 1) (shared.live.toInt + -(20 * 25))) ∧
    (4 : Word32).toNat = min (2 ^ 32 - 1) (shared.count.toNat + (pairs [(20, 25)]).length) := by decide

theorem witness_AccumulateAddsTheExactPartial_limits :
    let r := holding (BitVec.ofInt 72 (2 ^ 71 - 1)) 0xFFFFFFFF
    let j := jobOf 0 1 (.accumulate 5 [(0xFFFFFFFF, 0xFFFFFFFF)] false none)
    let s := runs (base.setAcc 5 (some { r with policies := { r.policies with mode := .unsigned } })) j
    s.running = some j ∧ r.owner = some j.port ∧ (s.session j.port).number = j.session ∧
    (BitVec.ofInt 72 (2 ^ 71 - 1)).toInt = max (-(2 ^ 71)) (min (2 ^ 71 - 1) (r.live.toInt + 4294967295 * 4294967295)) ∧
    (0xFFFFFFFF : Word32).toNat = min (2 ^ 32 - 1) (r.count.toNat + 1) := by decide

theorem witness_LoadAndCloseJobsApply :
    (let j := jobOf 0 1 (.load 0 0x8000000000000000 (some 5))
     let s := runs base j
     s.running = some j ∧ j.mark = .none ∧ (s.session j.port).isOpen = true ∧ (s.session j.port).number = j.session ∧
     s.acc 0 = some shared ∧ shared.owner = some j.port ∧ some 5 = some shared.openSequence ∧
     (BitVec.ofInt 72 (-(2 ^ 63))).toInt = (0x8000000000000000 : Word64).toInt) ∧
    (let j := jobOf 0 1 (.close 31)
     let s := runs (base.setAcc 31 (some { orphan with owner := some 0 })) j
     s.running = some j ∧ j.work = .close 31 ∧ (s.acc 31).map (·.owner) = some (some j.port) ∧
     orphan.openSequence.toNat = 2 ^ 48 - 1) := by decide

theorem witness_CloseRecordsTheWindow : shared.HistoryFits ∧ orphan.HistoryFits ∧ shared.ring.length = shared.depth :=
  ⟨shared_fits, orphan_fits, rfl⟩

theorem witness_JobCancelTakesTheOldest :
    let fits : Job → Prop := fun j => j.port = 1 ∧ j.tag = 7 ∧ j.session = (base.session 1).number ∧ j.mark ≠ .discard
    let j := jobOf 1 2 .fence
    let other := { j with tag := 8 }
    let marked := { j with mark := .discard }
    ((ask base 1 .jobCancel [7]).Asks 1 .jobCancel (request .jobCancel [7]) ∧ (request .jobCancel [7]).payload = [7]) ∧
    ((runs base j).running = some j ∧ fits j) ∧ (¬ fits marked ∧ ¬ fits other) ∧
    ((base.setJobs 1 ([other] ++ j :: [j])).jobs 1 = [other] ++ j :: [j] ∧ ∀ x ∈ [other], ¬ fits x) ∧
    ∀ x ∈ [other], ¬ fits x := by decide

/-! ### Witnesses: reading -/

/-- The shift step of a format gives `x` of `v` (the two hypotheses of the statement on presented values). -/
abbrev ShiftsTo (f : ReadFormat) (v : Wide) (x : Int) : Prop :=
  let k := f.shift.val
  let added : Int := if k ≠ 0 ∧ f.rounding = .nearest then 2 ^ (k - 1) else 0
  x * 2 ^ k ≤ v.toInt + added ∧ v.toInt + added < (x + 1) * 2 ^ k

theorem witness_PresentedValueIsExact :
    (ShiftsTo .rawFormat (BitVec.ofInt 72 (-(2 ^ 71))) (-(2 ^ 71)) ∧ ReadFormat.rawFormat.width = .raw) ∧
    (ShiftsTo q15 369118752 11264 ∧ q15.width = .w16 ∧ (-(2 ^ 15) : Int) ≤ 11264 ∧ (11264 : Int) ≤ 2 ^ 15 - 1) ∧
    (ShiftsTo (at4 .nearest) (BitVec.ofInt 72 (-24)) (-1) ∧ (at4 .nearest).width = .w32) ∧
    (ShiftsTo (at64 8 .nearest .clamp) (BitVec.ofInt 72 (2 ^ 71 - 1)) (2 ^ 63) ∧ (2 ^ 63 - 1 : Int) < 2 ^ 63) ∧
    (ShiftsTo (at64 63 .nearest .clamp) (BitVec.ofInt 72 (-(2 ^ 71))) (-256)) ∧
    (ShiftsTo (at64 0 .truncate .clamp) (BitVec.ofInt 72 (-(2 ^ 63) - 1)) (-(2 ^ 63) - 1) ∧
     (-(2 ^ 63) - 1 : Int) < -(2 ^ 63)) ∧
    (ShiftsTo (at64 8 .nearest .wrap) (BitVec.ofInt 72 (2 ^ 71 - 1)) (2 ^ 63) ∧ (at64 8 .nearest .wrap).limit = .wrap) := by
  decide

theorem witness_ReadLiveReportsTheRecord :
    ((ask base 2 .readLive [0, 0xBF, 0x03]).Asks 2 .readLive (request .readLive [0, 0xBF, 0x03]) ∧
     [0, 0xBF, 0x03] = byte (0 : AccIx).val :: sentFormat
       (some { shift := 63, rounding := .truncate, width := .raw, limit := .clamp }) ∧
     base.acc 0 = some shared) ∧
    ([30] = byte (30 : AccIx).val :: sentFormat none ∧ base.acc 30 = none) := by decide

theorem witness_ReadHistoryReturnsTheNextRecords :
    (ask base 2 .readHistory [0, 4]).Asks 2 .readHistory (request .readHistory [0, 4]) ∧
    [0, 4] = HistoryArgs.sent { acc := 0, maximum := 4, format := none } ∧
    [30, 1, 0x4F, 0x00] = HistoryArgs.sent (.mk 30 1
      (some { shift := 15, rounding := .nearest, width := .w16, limit := .wrap })) ∧ base.acc 30 = none ∧
    base.acc 0 = some shared ∧ shared.reader 1 = none ∧
    shared.reader 2 = some { cursor := 1, notify := true, format := q15 } ∧ shared.HistoryFits :=
  ⟨by decide, by decide, by decide, by decide, by decide, by decide, by decide, shared_fits⟩

theorem witness_ReadRecordReturnsAHeldRecord :
    (ask base 2 .readRecord [0, 0, 0, 0, 0, 0, 4]).Asks 2 .readRecord (request .readRecord [0, 0, 0, 0, 0, 0, 4]) ∧
    [0, 0, 0, 0, 0, 0, 4] = byte (0 : AccIx).val :: wordBytes 6 (4 : Sequence) ∧
    (shared.reader 2).isSome = true ∧ (∀ c ∈ shared.ring, c.sequence ≠ 5) ∧ (∃ c ∈ shared.ring, c.sequence = 4) ∧
    ¬ (shared.owner = some 3 ∨ shared.isContributor 3 = true ∨ (shared.reader 3).isSome = true) ∧
    base.acc 30 = none ∧ shared.HistoryFits :=
  ⟨by decide, by decide, by decide, by decide, by decide, by decide, by decide, shared_fits⟩

theorem witness_HistoryResizeMovesSlots :
    (ask base 0 .historyResize [0, 32]).Asks 0 .historyResize (request .historyResize [0, 32]) ∧
    [0, 32] = [byte (0 : AccIx).val, byte 32] ∧ (32 : Nat) ≤ 32 ∧ [0, 0] = [byte (0 : AccIx).val, byte 0] ∧
    [30, 1] = [byte (30 : AccIx).val, byte 1] ∧
    base.acc 0 = some shared ∧ shared.ring.length ≤ shared.depth ∧ base.acc 30 = none := by decide

/-! ### Witnesses: groups, monitors and events -/

theorem witness_GroupOwnershipIsClaimedAndReleased :
    (request .groupClaim [3]).payload = [byte (3 : GroupIx).val] ∧ (ask base 2 .groupClaim [3]).clockReady = true ∧
    (ask base 2 .groupClaim [3]).Asks 2 .groupClaim (request .groupClaim [3]) ∧
    (ask base 0 .groupRelease [1]).Asks 0 .groupRelease (request .groupRelease [1]) := by decide

theorem witness_GroupScheduleIsSetStartedAndStopped :
    stopped.clockReady = true ∧
    ((ask stopped 0 .groupSet [1, 0xFF, 0xFF]).Asks 0 .groupSet (request .groupSet [1, 0xFF, 0xFF]) ∧
     [1, 0xFF, 0xFF] = byte (1 : GroupIx).val :: beBytes 2 65535 ∧ [1, 0, 1] = byte (1 : GroupIx).val :: beBytes 2 1) ∧
    ((ask stopped 0 .groupStart [1, 0, 4]).Asks 0 .groupStart (request .groupStart [1, 0, 4]) ∧
     [1, 0, 4] = byte (1 : GroupIx).val :: ((some 4).map (beBytes 2)).getD [] ∧
     [1, 0xFF, 0xFF] = byte (1 : GroupIx).val :: ((some 65535).map (beBytes 2)).getD [] ∧
     [1] = byte (1 : GroupIx).val :: (Option.none.map (beBytes 2)).getD []) ∧
    ((ask base 0 .groupStop [1]).Asks 0 .groupStop (request .groupStop [1]) ∧
     (request .groupStop [1]).payload = [byte (1 : GroupIx).val]) := by decide

/-- Every monitor record in use. -/
def watched : State := allMonitors.foldl (fun s m => s.setMonitor m (some watch)) base

theorem witness_MonCreateArmsTheLowestFree :
    ((ask base 1 .monCreate (monPayload 0)).Asks 1 .monCreate (request .monCreate (monPayload 0)) ∧
     monPayload 0 = [byte (0 : AccIx).val, watch.config.sentByte] ++ watch.config.sentBounds ∧
     watch.config.low.toInt ≤ watch.config.high.toInt ∧
     2 * (watch.config.hysteresis.toNat : Int) ≤ watch.config.high.toInt - watch.config.low.toInt ∧ base.acc 0 = some shared ∧
     shared.isContributor 1 = true ∧ base.monitor 1 = none ∧ ∀ i, i < 1 → (base.monitor i).isSome = true) ∧
    (∀ m, (watched.monitor m).isSome = true) ∧
    ¬ (shared.owner = some 3 ∨ shared.isContributor 3 = true ∨ (shared.reader 3).isSome = true) ∧
    (monPayload 30 = [byte (30 : AccIx).val, watch.config.sentByte] ++ watch.config.sentBounds ∧ base.acc 30 = none) := by decide

theorem witness_MonitorsAreRearmedAndFreed :
    ((ask base 2 .monAttach [0, 31]).Asks 2 .monAttach (request .monAttach [0, 31]) ∧
     (request .monAttach [0, 31]).payload = [byte (0 : MonIx).val, byte (31 : AccIx).val] ∧ base.acc 31 = some orphan ∧
     base.monitor 0 = some watch) ∧ base.acc 30 = none ∧ base.monitor 15 = none ∧
    ((ask base 2 .monFree [0]).Asks 2 .monFree (request .monFree [0]) ∧
     (request .monFree [0]).payload = [byte (0 : MonIx).val]) := by decide

theorem witness_RegionFollowsTheTable :
    boundsDefined watch.config.low watch.config.high watch.config.hysteresis = true ∧
    boundsDefined 1000 2000 500 = true ∧ boundsDefined 0x8000000000000000 0x7FFFFFFFFFFFFFFF 0xFFFFFFFF = true ∧
    watch.region = .unknown := by decide

theorem witness_PostsFollowTheQueueRule :
    (base.session 3).isOpen = false ∧ (base.session 0).isOpen = true ∧
    ((∀ y ∈ queueOf 14, y.isMarker = false) ∧ (queueOf 14).length < 15) ∧
    ((∀ y ∈ queueOf 15, y.isMarker = false) ∧ 15 ≤ (queueOf 15).length) ∧
    fullQueue = queueOf 15 ++ [⟨.eventsLost 65535, 5000⟩] := by decide

theorem witness_EventFetchRemovesTheOldest :
    ((ask base 3 .eventFetch [8]).HeadIs 3 .eventFetch (request .eventFetch [8]) ∧ (base.session 3).isOpen = false ∧
     ((ask base 3 .eventFetch [8]).port 3).holding = false) ∧
    ((ask base 0 .eventFetch [9]).HeadIs 0 .eventFetch (request .eventFetch [9]) ∧ 8 < (9 : Byte).toNat ∧
     (0 : Byte).toNat = 0) ∧
    (let s := ask (base.setEvents 0 fullQueue) 0 .eventFetch [8]
     (s.session 0).isOpen = true ∧ 1 ≤ (8 : Byte).toNat ∧ (8 : Byte).toNat ≤ 8 ∧
     s.events 0 = fullQueue.take 8 ++ fullQueue.drop 8 ∧
     (fullQueue.take 8).length = min (8 : Byte).toNat (s.events 0).length) ∧
    (base.events 0 = [] ++ [] ∧ ([] : List EventRecord).length = min (1 : Byte).toNat (base.events 0).length) := by decide

end Sys2Proof.Tests
end

section
/-! PROOF. Events posted by a claim and monitors changed by it, as whole tables: the folds of the meanings over ports and
monitors against the terms `State.posted`, `State.detachedMonitors` and `State.detachNotices` of the statements. -/

namespace Sys2Proof.Machine

/-! ### Posts as a whole table (R144, R146, R149) -/

theorem State.posted_events (s : State) (es : Port → List EventRecord) (q : Port) :
    (s.posted es).events q = if (s.session q).isOpen then (es q).foldl enqueue (s.events q) else s.events q :=
  entry_ofFn _ _

@[simp] theorem State.posted_session (s : State) (es : Port → List EventRecord) (q : Port) :
    (s.posted es).session q = s.session q := rfl

@[simp] theorem State.posted_tick (s : State) (es : Port → List EventRecord) : (s.posted es).tick = s.tick := rfl

@[simp] theorem State.posted_monitor (s : State) (es : Port → List EventRecord) (i : MonIx) :
    (s.posted es).monitor i = s.monitor i := rfl

@[simp] theorem State.posted_acc (s : State) (es : Port → List EventRecord) (a : AccIx) :
    (s.posted es).acc a = s.acc a := rfl

theorem State.posted_sameButEvents (s : State) (es : Port → List EventRecord) : s.SameButEvents (s.posted es) := rfl

/-- States that differ from one state in their event queues alone are the same when their event queues are. -/
theorem State.SameButEvents.eq_of_events {s t u : State} (ht : s.SameButEvents t) (hu : s.SameButEvents u)
    (h : ∀ q, t.events q = u.events q) : t = u := by
  have hq : t.eventQueues = u.eventQueues := entry_ext h
  rw [ht, hu, hq]

@[simp] theorem State.posted_nothing (s : State) : s.posted (fun _ => []) = s :=
  (s.posted_sameButEvents _).eq_of_events (.refl s) fun q => by simp [State.posted_events]

/-- Posts after posts: each port's events stand in their order. -/
theorem State.posted_posted (s : State) (es es' : Port → List EventRecord) :
    (s.posted es).posted es' = s.posted fun q => es q ++ es' q :=
  ((s.posted_sameButEvents _).trans (State.posted_sameButEvents _ _)).eq_of_events (s.posted_sameButEvents _) fun q => by
    by_cases h : (s.session q).isOpen <;> simp [State.posted_events, h]

/-- One copy posted is one event for one port (R148, R149). -/
theorem State.postRecord_eq_posted (s : State) (e : EventRecord) (p : Port) :
    s.postRecord e p = s.posted (toEach (· == p) e) :=
  (s.postRecord_sameButEvents e p).eq_of_events (s.posted_sameButEvents _) fun q => by
    rw [State.posted_events]
    unfold State.postRecord State.deliver toEach
    by_cases hq : q = p
    · subst hq
      by_cases h : (s.session q).isOpen <;> simp [h]
    · by_cases h : (s.session p).isOpen <;> simp [h, hq, State.setEvents_events_ne]

theorem State.post_eq_posted (s : State) (p : Port) (e : Event) :
    s.post p e = s.posted (toEach (· == p) ⟨e, s.tick⟩) :=
  s.postRecord_eq_posted _ p

@[simp] theorem State.post_tick (s : State) (p : Port) (e : Event) : (s.post p e).tick = s.tick := by
  rw [State.post_eq_posted, State.posted_tick]

/-- One copy for each recipient, each port named once. -/
theorem State.postEach_eq_posted (s : State) {ps : List Port} (h : ps.Nodup) (e : EventRecord) :
    s.postEach ps e = s.posted (toEach (fun q => decide (q ∈ ps)) e) := by
  induction ps generalizing s with
  | nil => exact s.posted_nothing.symm
  | cons p ps ih =>
    obtain ⟨hp, hps⟩ := List.nodup_cons.mp h
    have split : ∀ q, toEach (fun q => decide (q ∈ p :: ps)) e q =
        toEach (· == p) e q ++ toEach (fun q => decide (q ∈ ps)) e q := by
      intro q
      by_cases hq : q = p
      · subst hq; simp [toEach, hp]
      · simp [toEach, hq]
    calc s.postEach (p :: ps) e
        = (s.postRecord e p).postEach ps e := rfl
      _ = (s.posted (toEach (· == p) e)).posted (toEach (fun q => decide (q ∈ ps)) e) := by
          rw [ih _ hps, State.postRecord_eq_posted]
      _ = _ := by rw [State.posted_posted, funext split]

/-- One copy for each port that a test names (R9, R20, R24). -/
theorem State.postEach_filter (s : State) (who : Port → Bool) (e : EventRecord) :
    s.postEach (allPorts.filter who) e = s.posted (toEach who e) := by
  have hall : ∀ q : Port, q ∈ allPorts := by decide
  have hnodup : allPorts.Nodup := by decide
  rw [s.postEach_eq_posted (hnodup.filter who)]
  simp [List.mem_filter, hall]

/-- The port that an offer names, told: the post where there is an offer, and nothing where there is none. -/
theorem State.posted_offered_some (s : State) (o : Offer) (e : Event) :
    s.posted (toEach (fun q => (some o).any (·.port == q)) ⟨e, s.tick⟩) = s.post o.port e := by
  simp [State.post_eq_posted, Bool.beq_comm]

theorem State.posted_offered_none (s : State) (e : EventRecord) :
    s.posted (toEach (fun q => (none : Option Offer).any (·.port == q)) e) = s := s.posted_nothing

/-! ### Monitors taken one after another (R132, R136) -/

@[simp] theorem State.withMonitors_monitor (s : State) (v : Vector (Option Monitor) 16) (i : MonIx) :
    (s.withMonitors v).monitor i = entry v i := rfl

/-- One monitor of a pass over the monitors: its record becomes `after` of itself, and each port gets the event that
`notice` gives of it, if any. -/
def State.monitorStep (notice : MonIx → Monitor → Port → Option EventRecord) (after : Monitor → Monitor) (s : State)
    (i : MonIx) : State :=
  (s.posted fun q => ((s.monitor i).bind (notice i · q)).toList).setMonitor i ((s.monitor i).map after)

/-- The monitor table with the monitors of a list changed. -/
def State.monitorsAmong (s : State) (after : Monitor → Monitor) (l : List MonIx) : Vector (Option Monitor) 16 :=
  Vector.ofFn fun i => if i ∈ l then (s.monitor i).map after else s.monitor i

theorem State.monitorsAmong_nil (s : State) (after : Monitor → Monitor) : s.monitorsAmong after [] = s.monitors :=
  entry_ext fun i => by simp [State.monitorsAmong, State.monitor]

theorem State.monitorsAmong_all (s : State) (after : Monitor → Monitor) :
    s.monitorsAmong after allMonitors = s.monitors.map (·.map after) := by
  have hall : ∀ i : MonIx, i ∈ allMonitors := by decide
  exact entry_ext fun i => by simp [State.monitorsAmong, State.monitor, hall]

theorem State.monitorStep_monitor_ne (notice : MonIx → Monitor → Port → Option EventRecord) (after : Monitor → Monitor)
    (s : State) {i k : MonIx} (h : k ≠ i) : (s.monitorStep notice after i).monitor k = s.monitor k :=
  State.setMonitor_monitor_ne _ _ h

/-- A pass over distinct monitors, as posts and a table: no monitor's turn touches another's record. -/
theorem State.foldl_monitorStep (notice : MonIx → Monitor → Port → Option EventRecord) (after : Monitor → Monitor)
    {l : List MonIx} (hl : l.Nodup) (s : State) :
    l.foldl (State.monitorStep notice after) s =
      (s.posted fun q => l.filterMap fun i => (s.monitor i).bind (notice i · q)).withMonitors
        (s.monitorsAmong after l) := by
  induction l generalizing s with
  | nil =>
    simp only [List.foldl_nil, List.filterMap_nil, State.posted_nothing, State.monitorsAmong_nil]
    rfl
  | cons i l ih =>
    obtain ⟨hi, hl⟩ := List.nodup_cons.mp hl
    have beside : ∀ k ∈ l, (s.monitorStep notice after i).monitor k = s.monitor k := fun k hk =>
      s.monitorStep_monitor_ne notice after fun e => hi (e ▸ hk)
    have notices : ∀ q, (l.filterMap fun k => ((s.monitorStep notice after i).monitor k).bind (notice k · q)) =
        l.filterMap fun k => (s.monitor k).bind (notice k · q) := fun q =>
      List.filterMap_congr fun k hk => by rw [beside k hk]
    have table : (s.monitorStep notice after i).monitorsAmong after l = s.monitorsAmong after (i :: l) :=
      entry_ext fun k => by
        by_cases hk : k ∈ l
        · simp [State.monitorsAmong, hk, beside k hk]
        · by_cases hki : k = i
          · subst hki; simp [State.monitorsAmong, hk, State.monitorStep]
          · simp [State.monitorsAmong, hk, hki, s.monitorStep_monitor_ne notice after hki]
    have joined : ∀ q, ((i :: l).filterMap fun k => (s.monitor k).bind (notice k · q)) =
        ((s.monitor i).bind (notice i · q)).toList ++ l.filterMap fun k => (s.monitor k).bind (notice k · q) := by
      intro q
      rw [List.filterMap_cons]
      cases (s.monitor i).bind (notice i · q) <;> rfl
    rw [List.foldl_cons, ih hl, table, funext notices, funext joined, ← State.posted_posted]
    rfl

/-- A pass over all monitors whose turns are steps of one kind as long as nothing but monitors and event queues changes. -/
theorem State.foldl_allMonitors {f : State → MonIx → State} {notice : MonIx → Monitor → Port → Option EventRecord}
    {after : Monitor → Monitor} {s : State} (hframe : ∀ (t : State) (i : MonIx), t.SameButMonitors (f t i))
    (hstep : ∀ t, s.SameButMonitors t → ∀ i, f t i = t.monitorStep notice after i) :
    allMonitors.foldl f s =
      (s.posted fun q => allMonitors.filterMap fun i => (s.monitor i).bind (notice i · q)).withMonitors
        (s.monitors.map (·.map after)) := by
  have steps : ∀ (l : List MonIx) (t : State), s.SameButMonitors t →
      l.foldl f t = l.foldl (State.monitorStep notice after) t := by
    intro l
    induction l with
    | nil => exact fun _ _ => rfl
    | cons i l ih =>
      intro t ht
      rw [List.foldl_cons, List.foldl_cons, ih _ (ht.trans (hframe t i)), hstep t ht i]
  rw [steps _ s (.refl s), State.foldl_monitorStep notice after (by decide), State.monitorsAmong_all]

theorem State.SameButMonitors.tick_eq {s t : State} (h : s.SameButMonitors t) : t.tick = s.tick := by
  rw [h]

/-! ### Detachment as a whole table (R46, R136, R137) -/

/-- A monitor after a detachment of the monitors of `who` on `a`. -/
def Monitor.detachedFrom (m : Monitor) (a : AccIx) (who : Port → Bool) : Monitor :=
  { m with armed := m.armed && !(m.acc == a && who m.owner) }

/-- What a detachment of the monitors of `who` on `a` tells port `q` of the monitor `i`. -/
def Monitor.detachNotice (m : Monitor) (a : AccIx) (who : Port → Bool) (reason : DetachReason) (tick : Word32) (i : MonIx)
    (q : Port) : Option EventRecord :=
  if m.armed ∧ m.acc = a ∧ who m.owner ∧ m.owner = q then some ⟨.monitorDetached i a reason, tick⟩ else none

theorem Monitor.detachedFrom_of_met {m : Monitor} {a : AccIx} {who : Port → Bool}
    (h : m.armed ∧ m.acc = a ∧ who m.owner) : m.detachedFrom a who = { m with armed := false } := by
  obtain ⟨h1, h2, h3⟩ := h
  simp [Monitor.detachedFrom, h2, h3]

theorem Monitor.detachedFrom_of_not_met {m : Monitor} {a : AccIx} {who : Port → Bool}
    (h : ¬ (m.armed ∧ m.acc = a ∧ who m.owner)) : m.detachedFrom a who = m := by
  have hsame : (m.armed && !(m.acc == a && who m.owner)) = m.armed := by
    cases harmed : m.armed with
    | false => rfl
    | true =>
      have hmiss : (m.acc == a && who m.owner) = false := by simpa [harmed] using h
      simp [hmiss]
  unfold Monitor.detachedFrom
  rw [hsame]

theorem Monitor.detachNotice_of_met {m : Monitor} {a : AccIx} {who : Port → Bool}
    (h : m.armed ∧ m.acc = a ∧ who m.owner) (reason : DetachReason) (tick : Word32) (i : MonIx) (q : Port) :
    (m.detachNotice a who reason tick i q).toList = toEach (· == m.owner) ⟨.monitorDetached i a reason, tick⟩ q := by
  obtain ⟨h1, h2, h3⟩ := h
  by_cases hq : m.owner = q
  · subst hq; simp [Monitor.detachNotice, toEach, h1, h2, h3]
  · simp [Monitor.detachNotice, toEach, hq, Ne.symm hq]

theorem Monitor.detachNotice_of_not_met {m : Monitor} {a : AccIx} {who : Port → Bool}
    (h : ¬ (m.armed ∧ m.acc = a ∧ who m.owner)) (reason : DetachReason) (tick : Word32) (i : MonIx) (q : Port) :
    m.detachNotice a who reason tick i q = none :=
  if_neg fun ⟨h1, h2, h3, _⟩ => h ⟨h1, h2, h3⟩

theorem State.setMonitor_monitor_eq (s : State) (i : MonIx) : s.setMonitor i (s.monitor i) = s := by
  have h : withEntry s.monitors i (s.monitor i) = s.monitors :=
    entry_ext fun k => by
      by_cases hk : k = i
      · subst hk; simp [State.monitor]
      · simp [entry_withEntry_ne _ _ hk]
  unfold State.setMonitor
  rw [h]

/-- One monitor meets a detachment: it is told and DETACHED when it is concerned, and stands as it was otherwise. -/
theorem State.detachOne_eq_monitorStep (a : AccIx) (who : Port → Bool) (reason : DetachReason) (s : State) (i : MonIx) :
    State.detachOne a who reason s i = s.monitorStep (fun i m q => m.detachNotice a who reason s.tick i q)
      (fun m => m.detachedFrom a who) i := by
  have same := s.setMonitor_monitor_eq i
  unfold State.detachOne State.monitorStep
  cases hm : s.monitor i with
  | none => rw [hm] at same; simp [same]
  | some m =>
    rw [hm] at same
    by_cases h : m.armed ∧ m.acc = a ∧ who m.owner
    · simp only [if_pos h, State.post_eq_posted, Option.bind_some, Option.map_some, Monitor.detachNotice_of_met h,
        Monitor.detachedFrom_of_met h]
      rfl
    · simp only [if_neg h, Option.bind_some, Option.map_some, Monitor.detachNotice_of_not_met h,
        Monitor.detachedFrom_of_not_met h, Option.toList_none, State.posted_nothing, same]

/-- A detachment, as posts and a table. -/
theorem State.detach_eq (s : State) (a : AccIx) (who : Port → Bool) (reason : DetachReason) :
    s.detach a who reason = (s.posted (s.detachNotices a who reason)).withMonitors (s.detachedMonitors a who) :=
  State.foldl_allMonitors (State.detachOne_sameButMonitors a who reason) fun t ht i => by
    rw [State.detachOne_eq_monitorStep, ht.tick_eq]
    rfl

end Sys2Proof.Machine
end

section
/-! PROOF. ACC_CREATE, ACC_CONFIGURE and ACC_RELEASE (O33, O34, O35). -/

namespace Sys2Proof.Machine

/-! ### Requests that their block answers at once -/

/-- A request in OPEN with its payload checked, by what its block makes of it on the state the request has left. -/
theorem State.serveReply_next {α : Type} {s t : State} {p : Port} {k : Kind} {f : Frame} {x : α}
    {operands : List Byte → Except Status α} {take : State → α → State × Reply} {st : Status} {payload : List Byte}
    (h : s.Asks p k f) (hx : operands f.payload = .ok x) (ht : take (s.popped p) x = (t, ⟨st, payload⟩)) :
    s.serveReply p k operands always take = t.responded p f.tag st payload := by
  rw [State.serveReply_asks always take h hx, ht]
  rfl

/-! ### A popped request commutes with what its block does -/

theorem State.popped_posted (s : State) (p : Port) (es : Port → List EventRecord) :
    (s.popped p).posted es = (s.posted es).popped p := rfl

theorem State.popped_withMonitors (s : State) (p : Port) (v : Vector (Option Monitor) 16) :
    (s.popped p).withMonitors v = (s.withMonitors v).popped p := rfl

theorem State.popped_setPool (s : State) (p : Port) (n : Nat) : (s.popped p).setPool n = (s.setPool n).popped p := rfl

theorem State.popped_setAcc (s : State) (p : Port) (a : AccIx) (r : Option Accumulator) :
    (s.popped p).setAcc a r = (s.setAcc a r).popped p := rfl

theorem State.popped_setClaims (s : State) (p : Port) (a : AccIx) (l : List Boundary) :
    (s.popped p).setClaims a l = (s.setClaims a l).popped p := rfl

theorem State.popped_detachNotices (s : State) (p : Port) (a : AccIx) (who : Port → Bool) (reason : DetachReason) :
    (s.popped p).detachNotices a who reason = s.detachNotices a who reason := rfl

theorem State.popped_detachedMonitors (s : State) (p : Port) (a : AccIx) (who : Port → Bool) :
    (s.popped p).detachedMonitors a who = s.detachedMonitors a who := rfl

/-! ### The three commands -/

theorem exec_accCreate (p : Port) (s : State) :
    exec (.accCreate p) s = .next (s.serveReply p .accCreate createOperands always (State.accCreate p)) := rfl

theorem exec_accConfigure (p : Port) (s : State) :
    exec (.accConfigure p) s = .next (s.serveReply p .accConfigure configureOperands always (State.accConfigure p)) := rfl

theorem exec_accRelease (p : Port) (s : State) :
    exec (.accRelease p) s = .next (s.serveReply p .accRelease accOperand always (State.accRelease p)) := rfl

theorem Accumulator.ownedBy_iff (r : Accumulator) (p : Port) : r.ownedBy p = true ↔ r.owner = some p := beq_iff_eq

/-! ### ACC_CREATE (R5, R6) -/

/-- The first element of an ascending list that passes a test which all smaller ones fail. -/
theorem find?_of_least {n : Nat} {l : List (Fin n)} {f : Fin n → Bool} {a : Fin n} (hl : l.Pairwise (· < ·))
    (ha : a ∈ l) (hf : f a = true) (hbelow : ∀ b, b < a → f b = false) : l.find? f = some a := by
  obtain ⟨before, after, rfl⟩ := List.append_of_mem ha
  refine List.find?_eq_some_iff_append.mpr ⟨hf, before, after, rfl, fun b hb => ?_⟩
  have hlt : b < a := (List.pairwise_append.mp hl).2.2 b hb a List.mem_cons_self
  simp [hbelow b hlt]

theorem State.lowestFree_of_least {s : State} {a : AccIx} (ha : s.acc a = none)
    (hbelow : ∀ b, b < a → (s.acc b).isSome = true) : s.lowestFree = some a :=
  have hall : ∀ a : AccIx, a ∈ allAccs := by decide
  find?_of_least (by decide) (hall a) (by simp [ha]) fun b hb => by simpa using hbelow b hb

theorem State.lowestFree_of_full {s : State} (h : ∀ a, (s.acc a).isSome = true) : s.lowestFree = none :=
  List.find?_eq_none.mpr fun a _ => by simpa [Option.isSome_iff_ne_none] using h a

/-- The record that ACC_CREATE is judged against: the one named, FREE, or for "any" the lowest that is FREE. -/
theorem State.accCreate_of_free {s : State} {p : Port} {x : CreateArgs} {a : AccIx}
    (h : x.target = some a ∨ (x.target = none ∧ ∀ b, b < a → (s.acc b).isSome = true)) (ha : s.acc a = none) :
    s.accCreate p x = s.createAt p a x := by
  unfold State.accCreate
  obtain ht | ⟨ht, hbelow⟩ := h
  · simp [ht, ha]
  · simp [ht, State.lowestFree_of_least ha hbelow]

theorem State.createAt_of_short {s : State} {x : CreateArgs} (p : Port) (a : AccIx) (h : s.pool < x.depth) :
    s.createAt p a x = (s, .plain .noHistorySpace) := if_pos h

theorem State.createAt_of_room {s : State} {x : CreateArgs} (p : Port) (a : AccIx) (h : ¬ s.pool < x.depth) :
    s.createAt p a x =
      ((s.setPool (s.pool - x.depth)).setAcc a (some (.created p x.policies x.depth)), .okay [byte a.val]) := if_neg h

theorem State.accCreate_of_inUse {s : State} {x : CreateArgs} {a : AccIx} (p : Port) (ht : x.target = some a)
    (ha : (s.acc a).isSome = true) : s.accCreate p x = (s, .plain .inUse) := by
  simp [State.accCreate, ht, ha]

theorem State.accCreate_of_full {s : State} {x : CreateArgs} (p : Port) (ht : x.target = none)
    (h : ∀ a, (s.acc a).isSome = true) : s.accCreate p x = (s, .plain .noAccumulator) := by
  simp [State.accCreate, ht, State.lowestFree_of_full h]

/-- Settles O33: each reply of ACC_CREATE on the state its request has left. -/
theorem accCreateTakesAFreeRecord : Obligations.AccCreateTakesAFreeRecord := by
  intro p s f x h hd hf
  have hx : createOperands f.payload = .ok x := hf ▸ createOperands_sent x hd
  rw [exec_accCreate]
  refine ⟨fun a ht ha => congrArg _ ?_, fun a ht ha => congrArg _ ?_, fun ht hall => congrArg _ ?_⟩
  · have hc : (s.popped p).accCreate p x = (s.popped p).createAt p a x := State.accCreate_of_free ht ha
    split
    · next hshort => exact State.serveReply_next h hx (hc.trans (State.createAt_of_short p a hshort))
    · next hroom => exact State.serveReply_next h hx (hc.trans (State.createAt_of_room p a hroom))
  · exact State.serveReply_next h hx (State.accCreate_of_inUse p ht ha)
  · exact State.serveReply_next h hx (State.accCreate_of_full p ht hall)

/-! ### ACC_CONFIGURE (R7, R8) -/

theorem State.accConfigure_of_free {s : State} {a : AccIx} (p : Port) (new : Policies) (h : s.acc a = none) :
    s.accConfigure p (a, new) = (s, .plain .gone) := by
  simp [State.accConfigure, h]

/-- ACC_CONFIGURE on a record in use, its checks in the order of R7. -/
theorem State.accConfigure_of_inUse {s : State} {a : AccIx} {r : Accumulator} (p : Port) (new : Policies)
    (h : s.acc a = some r) : s.accConfigure p (a, new) =
      if r.owner ≠ some p then (s, .plain .notOwner)
      else if new.mode ≠ r.policies.mode ∧ r.count ≠ 0 then (s, .plain .notEmpty)
      else (s.setAcc a (some { r with policies := new }), .okay []) := by
  by_cases ho : r.owner = some p <;> simp [State.accConfigure, h, Accumulator.ownedBy, ho]

/-- Settles O34: each reply of ACC_CONFIGURE on the state its request has left. -/
theorem accConfigureReplacesPolicies : Obligations.AccConfigureReplacesPolicies := by
  intro p s f a new h hf
  have hx : configureOperands f.payload = .ok (a, new) := hf ▸ configureOperands_sent a new
  rw [exec_accConfigure]
  refine ⟨fun ha => congrArg _ (State.serveReply_next h hx (State.accConfigure_of_free p new ha)),
    fun r ha => congrArg _ ?_⟩
  have hc := State.accConfigure_of_inUse (s := s.popped p) p new ha
  split_ifs at hc ⊢ with howner hmode
  · exact State.serveReply_next h hx hc
  · exact State.serveReply_next h hx hc
  · exact State.serveReply_next h hx hc

/-! ### ACC_RELEASE (R9) -/

theorem State.accRelease_of_free {s : State} {a : AccIx} (p : Port) (h : s.acc a = none) :
    s.accRelease p a = (s, .plain .gone) := by
  simp [State.accRelease, h]

theorem State.accRelease_of_not_owner {s : State} {a : AccIx} {r : Accumulator} {p : Port} (h : s.acc a = some r)
    (ho : r.owner ≠ some p) : s.accRelease p a = (s, .plain .notOwner) := by
  simp [State.accRelease, h, Accumulator.ownedBy, ho]

theorem State.accRelease_of_owner {s : State} {a : AccIx} {r : Accumulator} {p : Port} (h : s.acc a = some r)
    (ho : r.owner = some p) : s.accRelease p a = (s.release a r p .released, .okay []) := by
  simp [State.accRelease, h, Accumulator.ownedBy, ho]

/-- The contributors and readers other than one port, told once each (R9, R24). -/
theorem State.postEach_sharers (s : State) (r : Accumulator) (p : Port) (e : EventRecord) :
    s.postEach (r.sharers.filter (· != p)) e =
      s.posted (toEach (fun q => decide (q ≠ p) && (r.isContributor q || (r.reader q).isSome)) e) := by
  have hwho : (fun q => (q != p) && (r.isContributor q || (r.reader q).isSome)) =
      fun q => decide (q ≠ p) && (r.isContributor q || (r.reader q).isSome) := by
    funext q
    by_cases hq : q = p <;> simp [hq]
  unfold Accumulator.sharers
  rw [List.filter_filter, State.postEach_filter, hwho]

/-- A release with the withdrawal of its offer, if any, as a post (R9, R36). -/
theorem State.release_eq_told (s : State) (a : AccIx) (r : Accumulator) (p : Port) (reason : GoneReason) :
    let told := ((s.posted (toEach (fun q => r.offer.any (·.port == q)) ⟨.offerWithdrawn a, s.tick⟩)).postEach
      (r.sharers.filter (· != p)) ⟨.accGone a reason, s.tick⟩).detach a (fun _ => true) .released
    s.release a r p reason = ((told.setPool (told.pool + r.depth)).setAcc a none).setClaims a [] := by
  unfold State.release
  cases r.offer with
  | none => simp only [State.posted_offered_none]
  | some o => simp only [State.posted_offered_some, State.post_tick]

/-- A release, as posts and tables (R9, R25): the offer withdrawn, ACC_GONE, and the detachments, in this order. -/
theorem State.release_eq (s : State) (a : AccIx) (r : Accumulator) (p : Port) (reason : GoneReason) :
    s.release a r p reason = ((((s.posted fun q =>
        toEach (fun q => r.offer.any (·.port == q)) ⟨.offerWithdrawn a, s.tick⟩ q ++
        toEach (fun q => decide (q ≠ p) && (r.isContributor q || (r.reader q).isSome)) ⟨.accGone a reason, s.tick⟩ q ++
        s.detachNotices a (fun _ => true) .released q).withMonitors
      (s.detachedMonitors a fun _ => true)).setPool (s.pool + r.depth)).setAcc a none).setClaims a [] := by
  rw [State.release_eq_told, State.postEach_sharers, State.detach_eq, ← State.posted_posted, ← State.posted_posted]
  rfl

/-- The request's leaving the queue and a release touch different items. -/
theorem State.popped_release (s : State) (p : Port) (a : AccIx) (r : Accumulator) (q : Port) (reason : GoneReason) :
    (s.popped p).release a r q reason = (s.release a r q reason).popped p := by
  simp only [State.release_eq, State.popped_tick, State.popped_pool, State.popped_detachNotices,
    State.popped_detachedMonitors, State.popped_posted, State.popped_withMonitors, State.popped_setPool,
    State.popped_setAcc, State.popped_setClaims]

/-- Settles O35: each reply of ACC_RELEASE on the state its request has left. -/
theorem accReleaseFreesTheRecord : Obligations.AccReleaseFreesTheRecord := by
  intro p s f a h hf
  have hx : accOperand f.payload = .ok a := accOperand_byte hf
  rw [exec_accRelease]
  refine ⟨fun ha => congrArg _ (State.serveReply_next h hx (State.accRelease_of_free p ha)), fun r ha => congrArg _ ?_⟩
  split
  · next ho => exact State.serveReply_next h hx (State.accRelease_of_not_owner ha ho)
  · next ho =>
    rw [State.serveReply_next h hx (State.accRelease_of_owner ha (not_not.mp ho)), State.popped_release, State.release_eq]
    rfl

end Sys2Proof.Machine
end

section
/-! PROOF. The close of a window and the jobs LOAD and CLOSE (O45, O46). -/

namespace Sys2Proof.Machine

/-! ### The close of a window (R18 to R20, R101) -/

/-- An append to a ring within its depth keeps the newest records that the depth holds. -/
theorem ringAppend_eq_drop {depth : Nat} {ring : List ClosedRecord} (r : ClosedRecord) (h : ring.length ≤ depth) :
    ringAppend depth ring r = (ring ++ [r]).drop (ring.length + 1 - depth) := by
  unfold ringAppend
  split
  · next h0 =>
    have hnil : ring = [] := List.eq_nil_of_length_eq_zero (by omega)
    simp [hnil, h0]
  · split
    · next hroom =>
      have : ring.length + 1 - depth = 0 := by omega
      simp [this]
    · exact (List.drop_append_of_le_length (by omega)).symm

theorem Cause.isManual_eq (c : Cause) : c.isManual = decide (c = .manual) := by
  cases c <;> simp [Cause.isManual]

/-- Settles O46: the ring append, the posts to the readers that asked, and the hand-over to the monitors. -/
theorem closeRecordsTheWindow : Obligations.CloseRecordsTheWindow := by
  intro s a r cause tick hfits
  obtain ⟨hlen, -, -, -⟩ := hfits
  unfold State.closeWindow Accumulator.closed Accumulator.notified
  dsimp only
  rw [ringAppend_eq_drop _ hlen, State.postEach_filter, Cause.isManual_eq]
  rfl

/-! ### Jobs that the tests let through (R60 to R67) -/

theorem targetRefusal_of_open {target : Option Sequence} {q : Sequence} (h : target = none ∨ target = some q) :
    targetRefusal target q = none := by
  obtain rfl | rfl := h <;> simp [targetRefusal]

/-- A job that is current, unmarked, with standing and in its target window, is applied (R61 to R66). -/
theorem State.judgeJob_apply {s : State} {j : Job} {a : AccIx} {r : Accumulator} (hmark : j.mark = .none)
    (hopen : (s.session j.port).isOpen = true) (hnumber : (s.session j.port).number = j.session)
    (hacc : j.work.acc? = some a) (ha : s.acc a = some r) (hstanding : r.standing j.port j.work = true)
    (htarget : j.work.target? = none ∨ j.work.target? = some r.openSequence) : s.judgeJob j = .apply a r := by
  have hcurrent : s.isCurrent j = true := by simp [State.isCurrent, hopen, hnumber]
  simp [State.judgeJob, hmark, hcurrent, hacc, ha, hstanding, targetRefusal_of_open htarget]

/-- The completion of a job that is applied, by what its application makes of the state with the engine IDLE. -/
theorem exec_jobCompletion_apply {s t : State} {j : Job} {a : AccIx} {r : Accumulator} {st : Status} {payload : List Byte}
    (hrun : s.running = some j) (hj : (s.setRunning none).judgeJob j = .apply a r)
    (ht : (s.setRunning none).applyJob a r j.work = (t, ⟨st, payload⟩)) :
    exec .jobCompletion s = .next (t.responded j.port j.tag st payload) := by
  show execJobCompletion s = _
  simp only [execJobCompletion, hrun, State.complete, hj, ht, State.reply_eq]

theorem resultPayload_eq (q : Sequence) (count : Word32) (saturated : Bool) :
    resultPayload q count saturated = wordBytes 6 q ++ wordBytes 4 count ++ [if saturated then 0x01 else 0x00] := by
  cases saturated <;> rfl

/-- The wide value of a load: the one with the same integer (R16). -/
theorem signExtend_of_toInt_eq {v : Word64} {live : Wide} (h : live.toInt = v.toInt) : v.signExtend 72 = live :=
  BitVec.eq_of_toInt_eq (by rw [BitVec.toInt_signExtend_of_le (by omega), h])

theorem eq_lastSequence_iff (q : Sequence) : q = Config.lastSequence ↔ q.toNat = 2 ^ 48 - 1 := by
  simp [← BitVec.toNat_inj]

/-- LOAD applied (R16, R17, R67). -/
theorem State.applyJob_load (s : State) (a : AccIx) (r : Accumulator) {v : Word64} (target : Option Sequence) {live : Wide}
    (h : live.toInt = v.toInt) : s.applyJob a r (.load a v target) =
      ((s.setAcc a (some { r with live := live, saturated := false })).evaluate a live none,
        ⟨.ok, wordBytes 6 r.openSequence ++ wordBytes 4 r.count ++ [0x00]⟩) := by
  simp only [State.applyJob, Accumulator.applyLoad, signExtend_of_toInt_eq h]
  rfl

theorem State.applyJob_close_of_last (s : State) (a : AccIx) {r : Accumulator} (h : r.openSequence = Config.lastSequence) :
    s.applyJob a r (.close a) = (s, .plain .sequenceLimit) := if_pos h

/-- CLOSE applied below the last sequence (R22, R67). -/
theorem State.applyJob_close (s : State) (a : AccIx) {r : Accumulator} (h : r.openSequence ≠ Config.lastSequence) :
    s.applyJob a r (.close a) = (s.closeWindow a r .manual s.tick,
      ⟨.ok, wordBytes 6 r.openSequence ++ wordBytes 4 r.count ++ [if r.saturated then 0x01 else 0x00]⟩) :=
  (if_neg h).trans (by rw [resultPayload_eq]; rfl)

/-- Settles O45: a job of the owner passes the tests, and each application gives its own next state. -/
theorem loadAndCloseJobsApply : Obligations.LoadAndCloseJobsApply := by
  intro s j a r hrun hmark hopen hnumber ha howner
  have howned : r.ownedBy j.port = true := (r.ownedBy_iff j.port).mpr howner
  refine ⟨fun v target live hwork htarget hlive => ?_, fun hwork => ?_⟩
  · have hj : (s.setRunning none).judgeJob j = .apply a r :=
      State.judgeJob_apply hmark hopen hnumber (by rw [hwork]; rfl) ha (by rw [hwork]; exact howned)
        (by rw [hwork]; exact htarget)
    exact exec_jobCompletion_apply hrun hj (hwork ▸ State.applyJob_load _ a r target hlive)
  · have hj : (s.setRunning none).judgeJob j = .apply a r :=
      State.judgeJob_apply hmark hopen hnumber (by rw [hwork]; rfl) ha (by rw [hwork]; exact howned)
        (by rw [hwork]; exact .inl rfl)
    split
    · next hlast =>
      have hq : r.openSequence = Config.lastSequence := (eq_lastSequence_iff _).mpr hlast
      exact exec_jobCompletion_apply hrun hj (hwork ▸ State.applyJob_close_of_last _ a hq)
    · next hbelow =>
      have hq : r.openSequence ≠ Config.lastSequence := fun e => hbelow ((eq_lastSequence_iff _).mp e)
      exact exec_jobCompletion_apply hrun hj (hwork ▸ State.applyJob_close _ a hq)

end Sys2Proof.Machine
end

section
/-! PROOF. ACC_GRANT, ACC_ACCEPT, ACC_CLAIM, SUBSCRIBE and UNSUBSCRIBE (O36, O38, O39, O40). -/

namespace Sys2Proof.Machine

/-! ### Loss of access (R46) -/

theorem State.loseAccess_of_access {s : State} {a : AccIx} {r : Accumulator} {q : Port} (h : s.acc a = some r)
    (hq : r.access q = true) : s.loseAccess a q = s := by
  simp [State.loseAccess, h, hq]

/-- A port left without access has its ARMED monitors there detached, as posts and a table. -/
theorem State.loseAccess_of_no_access {s : State} {a : AccIx} {r : Accumulator} {q : Port} (h : s.acc a = some r)
    (hq : r.access q = false) : s.loseAccess a q =
      (s.posted (s.detachNotices a (· == q) .accessLost)).withMonitors (s.detachedMonitors a (· == q)) := by
  simp [State.loseAccess, h, hq, State.detach_eq]

/-- Access lost by a change of the record that also posts: the detachments stand after the posts. -/
theorem State.setAcc_posted_loseAccess (s : State) (a : AccIx) (r : Accumulator) (es : Port → List EventRecord) (q : Port) :
    ((s.setAcc a (some r)).posted es).loseAccess a q =
      if r.access q then (s.setAcc a (some r)).posted es
      else ((s.setAcc a (some r)).posted fun x => es x ++ s.detachNotices a (· == q) .accessLost x).withMonitors
        (s.detachedMonitors a (· == q)) := by
  have hacc : ((s.setAcc a (some r)).posted es).acc a = some r := by simp
  split
  · next hq => exact State.loseAccess_of_access hacc hq
  · next hq =>
    rw [State.loseAccess_of_no_access hacc (Bool.eq_false_iff.mpr hq), ← State.posted_posted]
    rfl

/-- The access of a port that is not the owner (R27). -/
theorem Accumulator.access_of_not_owner {r : Accumulator} {q : Port} (h : r.owner ≠ some q) :
    r.access q = (r.isContributor q || (r.reader q).isSome) := by
  have howned : r.ownedBy q = false := beq_eq_false_iff_ne.mpr h
  simp [Accumulator.access, howned]

/-! ### ACC_GRANT (R29 to R31) -/

theorem exec_accGrant (p : Port) (s : State) :
    exec (.accGrant p) s = .next (s.serveReply p .accGrant grantOperands always (State.accGrant p)) := rfl

theorem State.accGrant_of_free {s : State} {x : GrantArgs} (p : Port) (h : s.acc x.acc = none) :
    s.accGrant p x = (s, .plain .gone) := by
  simp [State.accGrant, h]

/-- ACC_GRANT on a record in use, its checks in the order of R29. -/
theorem State.accGrant_of_inUse {s : State} {x : GrantArgs} {r : Accumulator} (p : Port) (h : s.acc x.acc = some r) :
    s.accGrant p x =
      if r.owner ≠ some p then (s, .plain .notOwner)
      else if x.target = p then (s, .plain .badField)
      else if (s.session x.target).isOpen = false then (s, .plain .badField)
      else if x.remove = false then (s.grantAdd x.acc r x.target, .okay [])
      else if r.isContributor x.target = false then (s, .plain .notFound)
      else (s.grantRemove x.acc r x.target, .okay []) := by
  by_cases ho : r.owner = some p
  · cases hremove : x.remove <;> simp [State.accGrant, h, Accumulator.ownedBy, ho, hremove, eq_comm (a := p)]
  · simp [State.accGrant, h, Accumulator.ownedBy, ho]

theorem State.grantAdd_of_contributor {s : State} {r : Accumulator} {q : Port} (a : AccIx) (h : r.isContributor q = true) :
    s.grantAdd a r q = s := if_pos h

/-- A contributor added and told (R30). -/
theorem State.grantAdd_of_not_contributor {s : State} {r : Accumulator} {q : Port} (a : AccIx)
    (h : r.isContributor q ≠ true) : s.grantAdd a r q =
      (s.setAcc a (some (r.setContributor q true))).posted (toEach (· == q) ⟨.rightsChanged a true, s.tick⟩) :=
  (if_neg h).trans (State.post_eq_posted _ _ _)

/-- A contributor removed and told; one that is no reader loses its access after that (R31, R46). -/
theorem State.grantRemove_eq {s : State} {r : Accumulator} {q : Port} (a : AccIx) (h : r.owner ≠ some q) :
    s.grantRemove a r q =
      if (r.reader q).isSome then
        (s.setAcc a (some (r.setContributor q false))).posted (toEach (· == q) ⟨.rightsChanged a false, s.tick⟩)
      else ((s.setAcc a (some (r.setContributor q false))).posted fun x =>
          toEach (· == q) ⟨.rightsChanged a false, s.tick⟩ x ++ s.detachNotices a (· == q) .accessLost x).withMonitors
        (s.detachedMonitors a (· == q)) := by
  have haccess : (r.setContributor q false).access q = (r.reader q).isSome := by
    rw [Accumulator.access_of_not_owner (by simpa using h)]
    simp
  unfold State.grantRemove
  rw [State.post_eq_posted, State.setAcc_posted_loseAccess, haccess, State.setAcc_tick]

/-- Settles O36: each reply of ACC_GRANT on the state its request has left. -/
theorem accGrantChangesContributors : Obligations.AccGrantChangesContributors := by
  intro p s f x h hf
  have hx : grantOperands f.payload = .ok x := hf ▸ grantOperands_sent x
  rw [exec_accGrant]
  refine ⟨fun ha => congrArg _ (State.serveReply_next h hx (State.accGrant_of_free p ha)), fun r ha => congrArg _ ?_⟩
  have hc := State.accGrant_of_inUse (s := s.popped p) p ha
  rw [State.popped_session] at hc
  split_ifs at hc ⊢ with howner htarget hopen hremove hcontributor hmissing hreader
  · exact State.serveReply_next h hx hc
  · exact State.serveReply_next h hx hc
  · exact State.serveReply_next h hx hc
  · rw [State.grantAdd_of_contributor x.acc hcontributor] at hc
    exact State.serveReply_next h hx hc
  · rw [State.grantAdd_of_not_contributor x.acc hcontributor] at hc
    rw [hremove]
    exact State.serveReply_next h hx hc
  · exact State.serveReply_next h hx hc
  all_goals
    rw [Bool.eq_true_of_not_eq_false hremove]
    have hother : r.owner ≠ some x.target := fun e => htarget (Option.some.inj (e.symm.trans (not_not.mp howner)))
    rw [State.grantRemove_eq x.acc hother] at hc
  · rw [if_pos hreader] at hc
    exact State.serveReply_next h hx hc
  · rw [if_neg hreader] at hc
    exact State.serveReply_next h hx hc

/-! ### ACC_ACCEPT (R35, R36) -/

theorem exec_accAccept (p : Port) (s : State) :
    exec (.accAccept p) s = .next (s.serveReply p .accAccept accOperand always (State.accAccept p)) := rfl

theorem State.accAccept_of_free {s : State} {a : AccIx} (p : Port) (h : s.acc a = none) :
    s.accAccept p a = (s, .plain .gone) := by
  simp [State.accAccept, h]

/-- An ORPHANED record, and one without an offer to `p`, has nothing for `p` to accept (R35). -/
theorem State.accAccept_of_no_offer {s : State} {a : AccIx} {r : Accumulator} {p : Port} (h : s.acc a = some r)
    (hno : r.owner = none ∨ ∀ o, r.offer = some o → o.port ≠ p) : s.accAccept p a = (s, .plain .noOffer) := by
  simp only [State.accAccept, h]
  split
  · next howner hoffer =>
    have hport := hno.resolve_left (by simp [howner]) _ hoffer
    exact if_neg hport
  · rfl

theorem State.accAccept_of_offer {s : State} {a : AccIx} {r : Accumulator} {p q : Port} {keep : Bool} (h : s.acc a = some r)
    (howner : r.owner = some q) (hoffer : r.offer = some { port := p, keep := keep }) :
    s.accAccept p a = (s.transfer a r p q { port := p, keep := keep }, .okay []) := by
  simp [State.accAccept, h, howner, hoffer]

theorem withEntry_entry_self {α : Type} {n : Nat} (v : Vector α n) (i : Fin n) : withEntry v i (entry v i) = v :=
  entry_ext fun j => by
    rw [entry_withEntry]
    split
    · next hj => rw [hj]
    · rfl

/-- The record after an acceptance, by the standing that the previous owner `q` has in it (R36). -/
theorem Accumulator.accepted_eq (r : Accumulator) {p q : Port} (o : Offer) (h : q ≠ p) :
    r.accepted p q o = { r with
      owner := some p, offer := none
      contributors := withEntry (withEntry r.contributors p false) q (o.keep || r.isContributor q) } := by
  have hkept : withEntry (withEntry r.contributors p false) q (r.isContributor q) = withEntry r.contributors p false := by
    have hbeside : r.isContributor q = entry (withEntry r.contributors p false) q := (entry_withEntry_ne _ _ h).symm
    rw [hbeside, withEntry_entry_self]
  unfold Accumulator.accepted
  cases o.keep with
  | true => simp
  | false => simp [hkept]

theorem bne_eq_decide_ne {n : Nat} (i j : Fin n) : (i != j) = decide (i ≠ j) := by
  by_cases h : i = j <;> simp [h]

/-- A transfer, as posts and tables: ACC_CLAIMED, then the detachments of a previous owner left without access (R36, R46). -/
theorem State.transfer_eq (s : State) (a : AccIx) (r : Accumulator) {p q : Port} (o : Offer) (h : q ≠ p) :
    let r' := r.accepted p q o
    let lost := !r'.isContributor q && (r.reader q).isNone
    s.transfer a r p q o = ((s.setAcc a (some r')).posted fun x =>
        toEach (fun x => decide (x ≠ p) && (r'.isContributor x || (r.reader x).isSome || x == q))
          ⟨.accClaimed a p, s.tick⟩ x ++
        if lost then s.detachNotices a (· == q) .accessLost x else []).withMonitors
      (if lost then s.detachedMonitors a (· == q) else s.monitors) := by
  intro r' lost
  have haccess : r'.access q = !lost := by
    have howner : r'.owner ≠ some q := fun e => h (Option.some.inj e).symm
    have hreader : r'.reader q = r.reader q := rfl
    rw [Accumulator.access_of_not_owner howner, hreader]
    simp [lost, Option.not_isNone]
  unfold State.transfer
  dsimp only
  rw [State.postEach_filter, State.setAcc_posted_loseAccess]
  simp only [bne_eq_decide_ne]
  change (if r'.access q = true then _ else _) = _
  rw [haccess]
  cases hlost : lost with
  | true => rfl
  | false => simp only [Bool.false_eq_true, if_false, List.append_nil]; rfl

/-- Settles O38: each reply of ACC_ACCEPT on the state its request has left. -/
theorem accAcceptTransfersOwnership : Obligations.AccAcceptTransfersOwnership := by
  intro p s f a h hf
  have hx : accOperand f.payload = .ok a := accOperand_byte hf
  rw [exec_accAccept]
  refine ⟨fun ha => congrArg _ (State.serveReply_next h hx (State.accAccept_of_free p ha)),
    fun r ha hno => congrArg _ (State.serveReply_next h hx (State.accAccept_of_no_offer ha hno)),
    fun r q keep ha howner hoffer hq => congrArg _ ?_⟩
  have hc := State.accAccept_of_offer (s := s.popped p) ha howner hoffer
  rw [State.transfer_eq _ a r _ hq, Accumulator.accepted_eq r _ hq] at hc
  exact State.serveReply_next h hx hc

/-! ### ACC_CLAIM (R40, R41) -/

theorem exec_accClaim (p : Port) (s : State) :
    exec (.accClaim p) s = .next (s.serveReply p .accClaim accOperand always (State.accClaim p)) := rfl

theorem State.accClaim_of_free {s : State} {a : AccIx} (p : Port) (h : s.acc a = none) :
    s.accClaim p a = (s, .plain .gone) := by
  simp [State.accClaim, h]

/-- The contributors and readers other than the claimer, told of a claim that takes the claimer's own standing (R41). -/
theorem State.postEach_claimed (s : State) (r : Accumulator) (p : Port) (e : EventRecord) :
    s.postEach (({ r.setContributor p false with owner := some p } : Accumulator).sharers.filter (· != p)) e =
      s.posted (toEach (fun q => decide (q ≠ p) && (r.isContributor q || (r.reader q).isSome)) e) := by
  rw [State.postEach_sharers]
  have hothers : ∀ q, q ≠ p →
      ({ r.setContributor p false with owner := some p } : Accumulator).isContributor q = r.isContributor q := fun q hq =>
    entry_withEntry_ne _ _ hq
  congr 2
  funext q
  by_cases hq : q = p
  · simp [hq]
  · rw [hothers q hq]
    rfl

/-- ACC_CLAIM on a record in use, its checks in the order of R40. -/
theorem State.accClaim_of_inUse {s : State} {a : AccIx} {r : Accumulator} (p : Port) (h : s.acc a = some r) :
    s.accClaim p a =
      if r.owner ≠ none then (s, .plain .alreadyOwned)
      else if r.isContributor p = false ∧ r.reader p = none ∧ r.policies.readerPolicy = .privateAccess then
        (s, .plain .notAuthorised)
      else ((s.setAcc a (some { r with owner := some p, contributors := withEntry r.contributors p false })).posted
        (toEach (fun q => decide (q ≠ p) && (r.isContributor q || (r.reader q).isSome)) ⟨.accClaimed a p, s.tick⟩),
        .okay []) := by
  simp only [State.accClaim, h, State.postEach_claimed]
  cases howner : r.owner with
  | some q => simp
  | none => simp [Accumulator.setContributor, and_assoc]

/-- Settles O39: each reply of ACC_CLAIM on the state its request has left. -/
theorem accClaimTakesAnOrphan : Obligations.AccClaimTakesAnOrphan := by
  intro p s f a h hf
  have hx : accOperand f.payload = .ok a := accOperand_byte hf
  rw [exec_accClaim]
  refine ⟨fun ha => congrArg _ (State.serveReply_next h hx (State.accClaim_of_free p ha)), fun r ha => congrArg _ ?_⟩
  have hc := State.accClaim_of_inUse (s := s.popped p) p ha
  split_ifs at hc ⊢ <;> exact State.serveReply_next h hx hc

/-! ### SUBSCRIBE (R43, R44) -/

theorem exec_subscribe (p : Port) (s : State) :
    exec (.subscribe p) s = .next (s.serveReply p .subscribe subscribeOperands always (State.subscribe p)) := rfl

theorem State.subscribe_of_free {s : State} {x : SubscribeArgs} (p : Port) (h : s.acc x.acc = none) :
    s.subscribe p x = (s, .plain .gone) := by
  simp [State.subscribe, h]

/-- The cursor is the open sequence when the request asks for the next window or no record is held (R44). -/
theorem Accumulator.startCursor_eq (r : Accumulator) (next : Bool) :
    r.startCursor next =
      if next = true ∨ r.ring = [] then r.openSequence else (r.ring.head?.map (·.sequence)).getD 0 := by
  unfold Accumulator.startCursor Accumulator.oldestHeld
  cases next with
  | true => simp
  | false => cases r.ring <;> simp

/-- SUBSCRIBE on a record in use (R43, R44). -/
theorem State.subscribe_of_inUse {s : State} {x : SubscribeArgs} {r : Accumulator} (p : Port) (h : s.acc x.acc = some r) :
    let cursor := r.startCursor x.next
    s.subscribe p x =
      if r.owner ≠ some p ∧ r.isContributor p = false ∧ r.policies.readerPolicy = .privateAccess then
        (s, .plain .notAuthorised)
      else (s.setAcc x.acc (some (r.setReader p (some { cursor := cursor, notify := x.notify, format := x.format }))),
        .okay (wordBytes 6 cursor ++ wordBytes 6 r.openSequence)) := by
  simp [State.subscribe, h, Accumulator.ownedBy, subscribePayload, and_assoc]

/-! ### UNSUBSCRIBE (R45, R46) -/

theorem exec_unsubscribe (p : Port) (s : State) :
    exec (.unsubscribe p) s = .next (s.serveReply p .unsubscribe accOperand always (State.unsubscribe p)) := rfl

theorem State.unsubscribe_of_free {s : State} {a : AccIx} (p : Port) (h : s.acc a = none) :
    s.unsubscribe p a = (s, .plain .gone) := by
  simp [State.unsubscribe, h]

/-- UNSUBSCRIBE on a record in use: a reader that is neither owner nor contributor loses its access (R45, R46). -/
theorem State.unsubscribe_of_inUse {s : State} {a : AccIx} {r : Accumulator} (p : Port) (h : s.acc a = some r) :
    let left := s.setAcc a (some (r.setReader p none))
    s.unsubscribe p a =
      if r.reader p = none then (s, .plain .notSubscribed)
      else if r.owner = some p ∨ r.isContributor p = true then (left, .okay [])
      else ((left.posted (s.detachNotices a (· == p) .accessLost)).withMonitors (s.detachedMonitors a (· == p)),
        .okay []) := by
  intro left
  have hleft : left.acc a = some (r.setReader p none) := by simp [left]
  have haccess : (r.setReader p none).access p = true ↔ r.owner = some p ∨ r.isContributor p = true := by
    simp [Accumulator.access, Accumulator.ownedBy]
  simp only [State.unsubscribe, h, Option.isNone_iff_eq_none]
  split_ifs with hreader hstanding
  · rfl
  · rw [State.loseAccess_of_access hleft (haccess.mpr hstanding)]
  · rw [State.loseAccess_of_no_access hleft (Bool.eq_false_iff.mpr (mt haccess.mp hstanding))]
    rfl

/-- Settles O40: each reply of SUBSCRIBE and of UNSUBSCRIBE on the state its request has left. -/
theorem subscriptionsComeAndGo : Obligations.SubscriptionsComeAndGo := by
  intro p s f
  rw [exec_subscribe, exec_unsubscribe]
  refine ⟨fun x h hf => ?_, fun a h hf => ?_⟩
  · have hx : subscribeOperands f.payload = .ok x := hf ▸ subscribeOperands_sent x
    refine ⟨fun ha => congrArg _ (State.serveReply_next h hx (State.subscribe_of_free p ha)), fun r ha => congrArg _ ?_⟩
    have hc := State.subscribe_of_inUse (s := s.popped p) p ha
    rw [← Accumulator.startCursor_eq]
    split_ifs at hc ⊢ <;> exact State.serveReply_next h hx hc
  · have hx : accOperand f.payload = .ok a := accOperand_byte hf
    refine ⟨fun ha => congrArg _ (State.serveReply_next h hx (State.unsubscribe_of_free p ha)), fun r ha => congrArg _ ?_⟩
    have hc := State.unsubscribe_of_inUse (s := s.popped p) p ha
    split_ifs at hc ⊢ <;> exact State.serveReply_next h hx hc

end Sys2Proof.Machine
end

section
/-! PROOF. READ_HISTORY, READ_RECORD and HISTORY_RESIZE (O50, O51, O52). -/

namespace Sys2Proof.Machine

/-! ### The three commands -/

theorem exec_readHistory (p : Port) (s : State) :
    exec (.readHistory p) s = .next (s.serveReply p .readHistory readHistoryOperands always (State.readHistory p)) := rfl

theorem exec_readRecord (p : Port) (s : State) :
    exec (.readRecord p) s = .next (s.serveReply p .readRecord readRecordOperands always (State.readRecord p)) := rfl

theorem exec_historyResize (p : Port) (s : State) :
    exec (.historyResize p) s = .next (s.serveReply p .historyResize resizeOperands always (State.historyResize p)) := rfl

/-! ### Access and formats (R27, R120) -/

theorem Accumulator.access_iff (r : Accumulator) (p : Port) :
    r.access p = true ↔ r.owner = some p ∨ r.isContributor p = true ∨ (r.reader p).isSome = true := by
  simp [Accumulator.access, Accumulator.ownedBy_iff, or_assoc]

/-- The format of a request: its own, else the reader's default, else RAW (R120). -/
theorem Accumulator.formatFor_eq (r : Accumulator) (p : Port) (asked : Option ReadFormat) :
    r.formatFor p asked = asked.getD (((r.reader p).map (·.format)).getD
      { shift := 0, rounding := .truncate, width := .raw, limit := .wrap }) := by
  unfold Accumulator.formatFor
  cases asked <;> cases r.reader p <;> rfl

/-! ### Records with consecutive sequences (R100) -/

/-- The sequences of the records count up by one from `first`. -/
def Consecutive (first : Nat) (l : List ClosedRecord) : Prop :=
  l.map (·.sequence.toNat) = List.range' first l.length

theorem Accumulator.HistoryFits.consecutive {r : Accumulator} (h : r.HistoryFits) :
    Consecutive (r.openSequence.toNat - r.ring.length) r.ring := by
  obtain ⟨-, -, hring, -⟩ := h
  exact hring

theorem Consecutive.drop {first : Nat} {l : List ClosedRecord} (h : Consecutive first l) (k : Nat) :
    Consecutive (first + k) (l.drop k) := by
  unfold Consecutive at h ⊢
  rw [List.map_drop, h, List.drop_range', List.length_drop, Nat.mul_one]

theorem Consecutive.sequence_getElem {first i : Nat} {l : List ClosedRecord} (h : Consecutive first l)
    (hi : i < l.length) : l[i].sequence.toNat = first + i := by
  have hat : (l.map (·.sequence.toNat))[i]? = (List.range' first l.length)[i]? := congrArg (·[i]?) h
  simpa [hi] using hat

/-- The first `k` records lie below the sequence `k` above the first. -/
theorem Consecutive.lt_of_mem_take {first k : Nat} {l : List ClosedRecord} (h : Consecutive first l) {c : ClosedRecord}
    (hc : c ∈ l.take k) : c.sequence.toNat < first + k := by
  obtain ⟨i, hi, rfl⟩ := List.mem_take_iff_getElem.mp hc
  rw [h.sequence_getElem]
  omega

/-- The records after the first `k` lie at or above the sequence `k` above the first. -/
theorem Consecutive.le_of_mem_drop {first k : Nat} {l : List ClosedRecord} (h : Consecutive first l) {c : ClosedRecord}
    (hc : c ∈ l.drop k) : first + k ≤ c.sequence.toNat := by
  obtain ⟨i, hi, rfl⟩ := List.mem_drop_iff_getElem.mp hc
  rw [h.sequence_getElem]
  omega

/-- Skipping the records below a sequence drops as many as lie below it. -/
theorem Consecutive.dropWhile_lt {first start : Nat} {l : List ClosedRecord} (h : Consecutive first l)
    (hstart : first ≤ start) :
    l.dropWhile (fun c => decide (c.sequence.toNat < start)) = l.drop (start - first) := by
  have hsum : first + (start - first) = start := Nat.add_sub_cancel' hstart
  conv_lhs => rw [← List.take_append_drop (start - first) l]
  rw [List.dropWhile_append_of_pos fun c hc => decide_eq_true (hsum ▸ h.lt_of_mem_take hc)]
  refine List.dropWhile_eq_self_iff.mpr fun hne => ?_
  have hle := h.le_of_mem_drop (List.getElem_mem hne)
  exact fun hlt => absurd (of_decide_eq_true hlt) (by omega)

/-- `n` records from a sequence on are those whose sequences lie in that run. -/
theorem Consecutive.filter_run {first start : Nat} {l : List ClosedRecord} (h : Consecutive first l)
    (hstart : first ≤ start) (n : Nat) :
    l.filter (fun c => decide (start ≤ c.sequence.toNat ∧ c.sequence.toNat < start + n)) =
      (l.drop (start - first)).take n := by
  have hsum : first + (start - first) = start := Nat.add_sub_cancel' hstart
  have hrest : Consecutive start (l.drop (start - first)) := by simpa only [hsum] using h.drop (start - first)
  conv_lhs => rw [← List.take_append_drop (start - first) l, ← List.take_append_drop n (l.drop (start - first))]
  rw [List.filter_append, List.filter_append, List.filter_eq_nil_iff.mpr ?hfront, List.filter_eq_self.mpr ?hrun,
    List.filter_eq_nil_iff.mpr ?hback, List.nil_append, List.append_nil]
  case hfront =>
    intro c hc
    have hbelow := h.lt_of_mem_take hc
    simp only [decide_eq_true_eq]
    omega
  case hrun =>
    intro c hc
    have hfrom := h.le_of_mem_drop (List.mem_of_mem_take hc)
    have hbelow := hrest.lt_of_mem_take hc
    simp only [decide_eq_true_eq]
    omega
  case hback =>
    intro c hc
    have hfrom := hrest.le_of_mem_drop hc
    simp only [decide_eq_true_eq]
    omega

/-- No two held records have the same sequence. -/
theorem Consecutive.eq_of_sequence_eq {first : Nat} {l : List ClosedRecord} (h : Consecutive first l)
    {c d : ClosedRecord} (hc : c ∈ l) (hd : d ∈ l) (heq : c.sequence = d.sequence) : c = d :=
  have hnodup : (l.map (·.sequence.toNat)).Nodup := h ▸ List.nodup_range' 1
  List.inj_on_of_nodup_map hnodup hc hd (congrArg BitVec.toNat heq)

/-! ### READ_HISTORY (R104, R105) -/

theorem State.readHistory_of_free {s : State} {x : HistoryArgs} (p : Port) (h : s.acc x.acc = none) :
    s.readHistory p x = (s, .plain .gone) := by
  simp [State.readHistory, h]

theorem State.readHistory_of_not_reader {s : State} {x : HistoryArgs} {r : Accumulator} {p : Port}
    (h : s.acc x.acc = some r) (hr : r.reader p = none) : s.readHistory p x = (s, .plain .notSubscribed) := by
  simp [State.readHistory, h, hr]

theorem State.readHistory_of_reader {s : State} {x : HistoryArgs} {r : Accumulator} {p : Port} {e : ReaderEntry}
    (h : s.acc x.acc = some r) (hr : r.reader p = some e) :
    let records := r.recordsFrom (r.settled e.cursor) x.maximum
    let cursor := r.settled e.cursor + BitVec.ofNat 48 records.length
    s.readHistory p x = (s.setAcc x.acc (some (r.setReader p (some { e with cursor := cursor }))),
      .okay (historyPayload (x.format.getD e.format) (r.missed e.cursor) cursor r.openSequence records)) := by
  simp [State.readHistory, h, hr, Accumulator.formatFor_eq]

/-- The floor lies as far below the open sequence as the ring is long (R100, R104). -/
theorem Accumulator.floor_toNat {r : Accumulator} (h : r.HistoryFits) :
    r.floor.toNat = r.openSequence.toNat - r.ring.length := by
  have hring := h.consecutive
  unfold Accumulator.floor Accumulator.oldestHeld
  cases hr : r.ring with
  | nil => simp
  | cons c l =>
    rw [hr] at hring
    exact hring.sequence_getElem (i := 0) (Nat.succ_pos _)

/-- The overrun test moves a cursor below the floor up to it (R104). -/
theorem Accumulator.settled_toNat (r : Accumulator) (cursor : Sequence) :
    (r.settled cursor).toNat = max cursor.toNat r.floor.toNat := by
  unfold Accumulator.settled
  simp only [BitVec.lt_def]
  split <;> omega

theorem Accumulator.missed_isSome_iff (r : Accumulator) (cursor : Sequence) :
    (r.missed cursor).isSome = true ↔ cursor.toNat < r.floor.toNat := by
  unfold Accumulator.missed
  simp only [BitVec.lt_def]
  split <;> simp [*]

/-- The missed count is the distance that the overrun test moves the cursor, 0 without an overrun (R104). -/
theorem Accumulator.missed_sent (r : Accumulator) (cursor : Sequence) :
    sequenceOrAbsent (r.missed cursor) = beBytes 6 ((r.settled cursor).toNat - cursor.toNat) := by
  rw [Accumulator.settled_toNat]
  unfold Accumulator.missed
  simp only [BitVec.lt_def]
  split
  · next hlt =>
    rw [max_eq_right hlt.le, ← BitVec.toNat_sub_of_le (BitVec.le_def.mpr hlt.le)]
    rfl
  · next hge =>
    rw [max_eq_left (not_lt.mp hge), Nat.sub_self]
    rfl

/-- The records returned are those whose sequences run from the cursor, as many as R105 says. -/
theorem Accumulator.recordsFrom_eq_filter {r : Accumulator} (h : r.HistoryFits) {cursor : Sequence}
    (hfloor : r.floor.toNat ≤ cursor.toNat) (maximum : Nat) :
    r.recordsFrom cursor maximum = r.ring.filter fun c => decide (cursor.toNat ≤ c.sequence.toNat ∧
      c.sequence.toNat < cursor.toNat + min maximum (r.openSequence.toNat - cursor.toNat)) := by
  unfold Accumulator.recordsFrom
  simp only [BitVec.lt_def]
  rw [Accumulator.floor_toNat h] at hfloor
  rw [h.consecutive.dropWhile_lt hfloor, h.consecutive.filter_run hfloor]

/-- Every sequence from the cursor up to the open sequence is held, so none of the records asked for is wanting (R105). -/
theorem Accumulator.recordsFrom_length {r : Accumulator} (h : r.HistoryFits) {cursor : Sequence}
    (hfloor : r.floor.toNat ≤ cursor.toNat) (maximum : Nat) :
    (r.recordsFrom cursor maximum).length = min maximum (r.openSequence.toNat - cursor.toNat) := by
  unfold Accumulator.recordsFrom
  simp only [BitVec.lt_def]
  rw [Accumulator.floor_toNat h] at hfloor
  rw [h.consecutive.dropWhile_lt hfloor, List.length_take, List.length_drop]
  obtain ⟨-, hshort, -, -⟩ := h
  omega

/-- The settled cursor lies between the floor and the open sequence (R103, R104). -/
theorem Accumulator.settled_le_open {r : Accumulator} (h : r.HistoryFits) {p : Port} {e : ReaderEntry}
    (hr : r.reader p = some e) : (r.settled e.cursor).toNat ≤ r.openSequence.toNat := by
  rw [Accumulator.settled_toNat, Accumulator.floor_toNat h]
  obtain ⟨-, -, -, hcursors⟩ := h
  obtain ⟨-, hopen⟩ := hcursors p e hr
  omega

theorem wordBytes_ofNat {w v : Nat} (n : Nat) (h : v < 2 ^ w) : wordBytes n (BitVec.ofNat w v) = beBytes n v := by
  rw [wordBytes, BitVec.toNat_ofNat, Nat.mod_eq_of_lt h]

/-- The response of READ_HISTORY, written out (Table 11-10). -/
theorem historyPayload_sent {format : ReadFormat} {missed : Option Sequence} {cursor openSequence : Sequence}
    {records : List ClosedRecord} : historyPayload format missed cursor openSequence records =
      [if missed.isSome then 0x01 else 0x00, byte records.length] ++ sequenceOrAbsent missed ++ wordBytes 6 cursor ++
        wordBytes 6 openSequence ++ records.flatMap (ClosedRecord.sent format) := by
  unfold historyPayload
  rw [funext (ClosedRecord.bytes_sent format)]
  cases missed <;> rfl

/-- Settles O50: the records from the settled cursor are the run of the ring that the statement filters out. -/
theorem readHistoryReturnsTheNextRecords : Obligations.ReadHistoryReturnsTheNextRecords := by
  intro p s f x h h1 h4 hf
  have hx : readHistoryOperands f.payload = .ok x := hf ▸ readHistoryOperands_sent x h1 h4
  rw [exec_readHistory]
  refine ⟨fun ha => congrArg _ (State.serveReply_next h hx (State.readHistory_of_free p ha)),
    fun r ha hr => congrArg _ (State.serveReply_next h hx (State.readHistory_of_not_reader ha hr)),
    fun r e ha hr hfits => ?_⟩
  intro floor start n records
  have hfloor : r.floor.toNat = floor := Accumulator.floor_toNat hfits
  have hstart : (r.settled e.cursor).toNat = start := by rw [Accumulator.settled_toNat, hfloor]
  have hle : r.floor.toNat ≤ (r.settled e.cursor).toNat := by rw [Accumulator.settled_toNat]; exact le_max_right _ _
  have hrecords : r.recordsFrom (r.settled e.cursor) x.maximum = records := by
    rw [Accumulator.recordsFrom_eq_filter hfits hle, hstart]
  have hlength : records.length = n := by rw [← hrecords, Accumulator.recordsFrom_length hfits hle, hstart]
  have hcursor : r.settled e.cursor + BitVec.ofNat 48 n = BitVec.ofNat 48 (start + n) := by
    rw [BitVec.ofNat_add, ← hstart, BitVec.ofNat_toNat, BitVec.setWidth_eq]
  have hopen : start ≤ r.openSequence.toNat := hstart ▸ Accumulator.settled_le_open hfits hr
  have hsent : wordBytes 6 (BitVec.ofNat 48 (start + n)) = beBytes 6 (start + n) :=
    wordBytes_ofNat 6 (by have := r.openSequence.isLt; omega)
  refine ⟨hlength, congrArg _ ?_⟩
  have hc := State.readHistory_of_reader (s := s.popped p) (x := x) ha hr
  simp only [hrecords, hlength, hcursor, hsent, historyPayload_sent, Accumulator.missed_isSome_iff,
    Accumulator.missed_sent, hfloor, hstart] at hc
  exact State.serveReply_next h hx hc

/-! ### READ_RECORD (R107) -/

theorem State.readRecord_of_free {s : State} {a : AccIx} (p : Port) (w : Sequence) (h : s.acc a = none) :
    s.readRecord p (a, w) = (s, .plain .gone) := by
  simp [State.readRecord, h]

theorem State.readRecord_of_no_access {s : State} {a : AccIx} {r : Accumulator} {p : Port} (w : Sequence)
    (h : s.acc a = some r) (hp : r.access p = false) : s.readRecord p (a, w) = (s, .plain .notAuthorised) := by
  simp [State.readRecord, h, hp]

theorem State.readRecord_of_not_held {s : State} {a : AccIx} {r : Accumulator} {p : Port} {w : Sequence}
    (h : s.acc a = some r) (hp : r.access p = true) (hw : ∀ c ∈ r.ring, c.sequence ≠ w) :
    s.readRecord p (a, w) = (s, .plain .notHeld) := by
  have hnone : r.ring.find? (fun c => c.sequence == w) = none := List.find?_eq_none.mpr fun c hc => by simpa using hw c hc
  simp [State.readRecord, h, hp, hnone]

/-- The search of a ring with consecutive sequences finds the one record of a held sequence. -/
theorem Consecutive.find?_sequence {first : Nat} {l : List ClosedRecord} (h : Consecutive first l) {c : ClosedRecord}
    (hc : c ∈ l) : l.find? (fun d => d.sequence == c.sequence) = some c := by
  cases hfind : l.find? (fun d => d.sequence == c.sequence) with
  | none => exact absurd (List.find?_eq_none.mp hfind c hc) (by simp)
  | some d =>
    have hseq : d.sequence = c.sequence := by simpa using List.find?_some hfind
    rw [h.eq_of_sequence_eq (List.mem_of_find?_eq_some hfind) hc hseq]

theorem State.readRecord_of_held {s : State} {a : AccIx} {r : Accumulator} {p : Port} {c : ClosedRecord}
    (h : s.acc a = some r) (hp : r.access p = true) (hfits : r.HistoryFits) (hc : c ∈ r.ring) :
    s.readRecord p (a, c.sequence) = (s, .okay (c.sent (((r.reader p).map (·.format)).getD
      { shift := 0, rounding := .truncate, width := .raw, limit := .wrap }))) := by
  simp [State.readRecord, h, hp, hfits.consecutive.find?_sequence hc, ClosedRecord.bytes_sent, Accumulator.formatFor_eq]

/-- Settles O51: each reply of READ_RECORD on the state its request has left, which no reply changes. -/
theorem readRecordReturnsAHeldRecord : Obligations.ReadRecordReturnsAHeldRecord := by
  intro p s f a w h hf
  have hx : readRecordOperands f.payload = .ok (a, w) := hf ▸ readRecordOperands_sent a w
  rw [exec_readRecord]
  refine ⟨fun ha => congrArg _ (State.serveReply_next h hx (State.readRecord_of_free p w ha)), fun r ha => ?_⟩
  intro access
  have haccess : r.access p = true ↔ access := r.access_iff p
  refine ⟨fun hp => congrArg _ ?_, fun hp hw => congrArg _ ?_, fun c hc hp hw hfits => congrArg _ ?_⟩
  · exact State.serveReply_next h hx (State.readRecord_of_no_access w ha (Bool.eq_false_iff.mpr (mt haccess.mp hp)))
  · exact State.serveReply_next h hx (State.readRecord_of_not_held ha (haccess.mpr hp) hw)
  · subst hw
    exact State.serveReply_next h hx (State.readRecord_of_held ha (haccess.mpr hp) hfits hc)

/-! ### HISTORY_RESIZE (R108 to R110) -/

theorem State.setAcc_of_acc {s : State} {a : AccIx} {x : Option Accumulator} (h : s.acc a = x) : s.setAcc a x = s := by
  unfold State.setAcc
  rw [← h, State.acc, withEntry_entry_self]

/-- A depth that holds the whole ring drops no record. -/
theorem Accumulator.shrunk_of_room {r : Accumulator} {depth : Nat} (h : r.ring.length ≤ depth) :
    r.shrunk depth = { r with depth := depth } := by
  unfold Accumulator.shrunk
  rw [Nat.sub_eq_zero_of_le h, List.drop_zero]

theorem State.historyResize_of_free {s : State} {a : AccIx} (p : Port) (depth : Nat) (h : s.acc a = none) :
    s.historyResize p (a, depth) = (s, .plain .gone) := by
  simp [State.historyResize, h]

/-- HISTORY_RESIZE on a record in use: growth, shrink and an equal depth give one formula for pool and ring (R108 to
R110). -/
theorem State.historyResize_of_inUse {s : State} {a : AccIx} {r : Accumulator} (p : Port) (depth : Nat)
    (h : s.acc a = some r) (hring : r.ring.length ≤ r.depth) :
    s.historyResize p (a, depth) =
      if r.owner ≠ some p then (s, .plain .notOwner)
      else if s.pool + r.depth < depth then (s, .plain .noHistorySpace)
      else ((s.setPool (s.pool + r.depth - depth)).setAcc a (some (r.shrunk depth)),
        .okay (resizePayload (r.shrunk depth) (s.pool + r.depth - depth))) := by
  simp only [State.historyResize, h, Bool.not_eq_true', Bool.eq_false_iff, ne_eq, Accumulator.ownedBy_iff]
  by_cases howner : r.owner = some p
  swap
  · rw [if_pos howner, if_pos howner]
  rw [if_neg (not_not.mpr howner), if_neg (not_not.mpr howner)]
  obtain hgrow | hequal | hshrink := lt_trichotomy r.depth depth
  · have hfree : s.pool - (depth - r.depth) = s.pool + r.depth - depth := by omega
    have hshort : s.pool < depth - r.depth ↔ s.pool + r.depth < depth := by omega
    simp only [if_pos hgrow, hfree, hshort, Accumulator.shrunk_of_room (hring.trans hgrow.le)]
  · have hfree : s.pool = s.pool + r.depth - depth := by omega
    have hsame : r.shrunk depth = r := by rw [← hequal, Accumulator.shrunk_of_room hring]
    rw [if_neg (by omega), if_neg (by omega), if_neg (by omega), hsame, ← hfree]
    exact congrArg (·, _) (State.setAcc_of_acc h).symm
  · have hfree : s.pool + (r.depth - depth) = s.pool + r.depth - depth := by omega
    rw [if_neg (by omega), if_pos hshrink, if_neg (by omega), hfree]

/-- The response of HISTORY_RESIZE, written out (Table 11-9). -/
theorem resizePayload_sent (r : Accumulator) (free : Nat) :
    resizePayload r free = [byte r.depth, byte r.ring.length, if r.ring = [] then 0x00 else 0x01] ++
      wordBytes 6 ((r.ring.head?.map (·.sequence)).getD 0) ++ beBytes 2 free := by
  unfold resizePayload Accumulator.oldestHeld
  cases r.ring <;> rfl

/-- Settles O52: each reply of HISTORY_RESIZE on the state its request has left. -/
theorem historyResizeMovesSlots : Obligations.HistoryResizeMovesSlots := by
  intro p s f a depth h hd hf
  have hx : resizeOperands f.payload = .ok (a, depth) := hf ▸ resizeOperands_sent a depth hd
  rw [exec_historyResize]
  refine ⟨fun ha => congrArg _ (State.serveReply_next h hx (State.historyResize_of_free p depth ha)),
    fun r ha hring => congrArg _ ?_⟩
  have hc := State.historyResize_of_inUse (s := s.popped p) p depth ha hring
  rw [resizePayload_sent, State.popped_pool] at hc
  split
  · next howner => exact State.serveReply_next h hx (hc.trans (if_pos howner))
  · next howner =>
    rw [if_neg howner] at hc
    split
    · next hshort => exact State.serveReply_next h hx (hc.trans (if_pos hshort))
    · next hroom => exact State.serveReply_next h hx (hc.trans (if_neg hroom))

end Sys2Proof.Machine
end

section
/-! PROOF. Read formats and READ_LIVE (O48, O49). -/

namespace Sys2Proof.Machine

/-! ### Numbers in bytes (R189) -/

/-- The byte `i` places from the front weighs 256 to the number of bytes after it. -/
theorem beBytes_getElem? (n v i : Nat) :
    (beBytes n v)[i]? = if i < n then some (byte (v / 256 ^ (n - 1 - i))) else none := by
  induction n generalizing i with
  | zero => rfl
  | succ n ih =>
    cases i with
    | zero => rfl
    | succ i =>
      have hplace : n + 1 - 1 - (i + 1) = n - 1 - i := by omega
      simp only [beBytes, List.getElem?_cons_succ, ih, Nat.add_lt_add_iff_right, hplace]

/-- One more byte at the end makes the number before it 256 times as great. -/
theorem beNat_concat (l : List Byte) (b : Byte) : beNat (l ++ [b]) = 256 * beNat l + b.toNat := by
  rw [beNat, List.foldl_concat, Nat.mul_comm]
  rfl

/-! ### The shift step (R117) -/

/-- What NEAREST adds before the division: half of 2^k, and nothing at a shift of 0 or under TRUNCATE. -/
def ReadFormat.addedHalf (f : ReadFormat) : Int :=
  if f.shift.val ≠ 0 ∧ f.rounding = .nearest then 2 ^ (f.shift.val - 1) else 0

/-- Both roundings and the shift of 0 are one division toward −∞. -/
theorem ReadFormat.shifted_eq_ediv (f : ReadFormat) (v : Int) :
    f.shifted v = (v + f.addedHalf) / 2 ^ f.shift.val := by
  unfold ReadFormat.shifted ReadFormat.addedHalf
  have hpow : (0 : Int) ≤ 2 ^ f.shift.val := by positivity
  by_cases hk : f.shift.val = 0
  · simp [hk]
  · cases hr : f.rounding <;> simp [hk, Int.fdiv_eq_ediv_of_nonneg _ hpow]

theorem ReadFormat.shifted_eq_iff (f : ReadFormat) (v x : Int) :
    f.shifted v = x ↔ x * 2 ^ f.shift.val ≤ v + f.addedHalf ∧ v + f.addedHalf < (x + 1) * 2 ^ f.shift.val := by
  rw [ReadFormat.shifted_eq_ediv, Int.ediv_eq_iff_of_pos (by positivity), add_one_mul]

/-- The half that NEAREST adds is less than one step of the shifted value. -/
theorem ReadFormat.addedHalf_bounds (f : ReadFormat) : 0 ≤ f.addedHalf ∧ f.addedHalf ≤ 2 ^ f.shift.val - 1 := by
  unfold ReadFormat.addedHalf
  have hpow : (0 : Int) < 2 ^ f.shift.val := by positivity
  split
  · next h =>
    obtain ⟨hk, -⟩ := h
    have hhalf : (2 : Int) ^ f.shift.val = 2 * 2 ^ (f.shift.val - 1) := by
      rw [← pow_succ', Nat.sub_add_cancel (Nat.pos_of_ne_zero hk)]
    omega
  · omega

/-- The shifted value of a wide value fits in 72 bits. -/
theorem ReadFormat.shifted_fits (f : ReadFormat) (v : Wide) :
    -(2 ^ 71) ≤ f.shifted v.toInt ∧ f.shifted v.toInt < 2 ^ 71 := by
  obtain ⟨hadd, hstep⟩ := f.addedHalf_bounds
  have hlow : -(2 ^ 71) ≤ v.toInt := v.le_toInt
  have hhigh : v.toInt < 2 ^ 71 := v.toInt_lt
  have hpow : (1 : Int) ≤ 2 ^ f.shift.val := one_le_pow₀ (by norm_num)
  rw [ReadFormat.shifted_eq_ediv, Int.le_ediv_iff_mul_le (by omega), Int.ediv_lt_iff_lt_mul (by omega)]
  constructor <;> omega

/-! ### The width step (R118, R119) -/

theorem ReadFormat.narrowed_raw {f : ReadFormat} (hw : f.width = .raw) (x : Int) :
    f.narrowed x = x ∧ f.clamps x = false := by
  simp [ReadFormat.narrowed, ReadFormat.clamps, hw]

theorem ReadFormat.narrowed_wrap {f : ReadFormat} (hw : f.width ≠ .raw) (hl : f.limit = .wrap) (x : Int) :
    f.narrowed x = (BitVec.ofInt f.width.bits x).toInt ∧ f.clamps x = false := by
  unfold ReadFormat.narrowed ReadFormat.clamps
  rw [hl]
  cases h : f.width with
  | raw => exact absurd h hw
  | w16 | w32 | w64 => exact ⟨rfl, rfl⟩

theorem ReadFormat.narrowed_clamp {f : ReadFormat} (hw : f.width ≠ .raw) (hl : f.limit = .clamp) (x : Int) :
    (f.narrowed x = if 2 ^ (f.width.bits - 1) - 1 < x then 2 ^ (f.width.bits - 1) - 1
      else if x < -(2 ^ (f.width.bits - 1)) then -(2 ^ (f.width.bits - 1)) else x) ∧
    f.clamps x = (decide (2 ^ (f.width.bits - 1) - 1 < x) || decide (x < -(2 ^ (f.width.bits - 1)))) := by
  unfold ReadFormat.narrowed ReadFormat.clamps
  rw [hl]
  cases h : f.width with
  | raw => exact absurd h hw
  | w16 | w32 | w64 => exact ⟨rfl, rfl⟩

theorem Width.bits_pos (w : Width) : 0 < w.bits := by cases w <;> decide

/-- Within the range of the width, both limits leave the value as it is. -/
theorem ReadFormat.narrowed_inside (f : ReadFormat) {x : Int} (hlow : -(2 ^ (f.width.bits - 1)) ≤ x)
    (hhigh : x ≤ 2 ^ (f.width.bits - 1) - 1) : f.narrowed x = x ∧ f.clamps x = false := by
  by_cases hw : f.width = .raw
  · exact ReadFormat.narrowed_raw hw x
  cases hl : f.limit with
  | wrap =>
    have hself := BitVec.toInt_ofInt_eq_self f.width.bits_pos hlow (Int.lt_of_le_sub_one hhigh)
    exact (ReadFormat.narrowed_wrap hw hl x).imp_left (·.trans hself)
  | clamp =>
    obtain ⟨hvalue, hflag⟩ := ReadFormat.narrowed_clamp hw hl x
    rw [hvalue, hflag, if_neg (not_lt.mpr hhigh), if_neg (not_lt.mpr hlow), decide_eq_false (not_lt.mpr hhigh),
      decide_eq_false (not_lt.mpr hlow)]
    exact ⟨rfl, rfl⟩

theorem ReadFormat.narrowed_above {f : ReadFormat} (hw : f.width ≠ .raw) (hl : f.limit = .clamp) (x : Int)
    (hx : 2 ^ (f.width.bits - 1) - 1 < x) : f.narrowed x = 2 ^ (f.width.bits - 1) - 1 ∧ f.clamps x = true := by
  obtain ⟨hvalue, hflag⟩ := ReadFormat.narrowed_clamp hw hl x
  rw [hvalue, hflag, if_pos hx, decide_eq_true hx, Bool.true_or]
  exact ⟨rfl, rfl⟩

theorem ReadFormat.narrowed_below {f : ReadFormat} (hw : f.width ≠ .raw) (hl : f.limit = .clamp) (x : Int)
    (hx : x < -(2 ^ (f.width.bits - 1))) : f.narrowed x = -(2 ^ (f.width.bits - 1)) ∧ f.clamps x = true := by
  obtain ⟨hvalue, hflag⟩ := ReadFormat.narrowed_clamp hw hl x
  have hrange : (0 : Int) < 2 ^ (f.width.bits - 1) := by positivity
  rw [hvalue, hflag, if_neg (by omega), if_pos hx, decide_eq_true hx, Bool.or_true]
  exact ⟨rfl, rfl⟩

/-- The width step puts every value that fits in 72 bits into the range of the width. -/
theorem ReadFormat.narrowed_fits (f : ReadFormat) {x : Int} (hlow : -(2 ^ 71) ≤ x) (hhigh : x < 2 ^ 71) :
    -(2 ^ (f.width.bits - 1)) ≤ f.narrowed x ∧ f.narrowed x ≤ 2 ^ (f.width.bits - 1) - 1 := by
  by_cases hw : f.width = .raw
  · rw [(ReadFormat.narrowed_raw hw x).1, hw]
    exact ⟨hlow, Int.le_sub_one_of_lt hhigh⟩
  cases hl : f.limit with
  | wrap =>
    rw [(ReadFormat.narrowed_wrap hw hl x).1]
    exact ⟨BitVec.le_toInt _, BitVec.toInt_le⟩
  | clamp =>
    have hrange : (0 : Int) < 2 ^ (f.width.bits - 1) := by positivity
    rw [(ReadFormat.narrowed_clamp hw hl x).1]
    split_ifs <;> omega

/-- WRAP keeps the value modulo 2^w. -/
theorem ReadFormat.dvd_narrowed_sub {f : ReadFormat} (hw : f.width ≠ .raw) (hl : f.limit = .wrap) (x : Int) :
    (2 : Int) ^ f.width.bits ∣ f.narrowed x - x := by
  rw [(ReadFormat.narrowed_wrap hw hl x).1, BitVec.toInt_ofInt]
  exact_mod_cast Int.dvd_bmod_sub_self

/-! ### The presented value as it is sent (R193) -/

theorem ReadFormat.present_fits (f : ReadFormat) (v : Wide) :
    -(2 ^ (f.width.bits - 1)) ≤ f.present v ∧ f.present v ≤ 2 ^ (f.width.bits - 1) - 1 :=
  have ⟨hlow, hhigh⟩ := f.shifted_fits v
  f.narrowed_fits hlow hhigh

theorem presentedBytes_length (f : ReadFormat) (v : Wide) : (presentedBytes f v).length = f.width.bits / 8 :=
  wordBytes_length _ _

/-- Every width is a whole number of bytes. -/
theorem Width.two_pow_bits (w : Width) : 2 ^ w.bits ≤ 256 ^ (w.bits / 8) := by cases w <;> decide

/-- The bytes of a presented value, read as a two's complement word, give it back. -/
theorem toInt_beNat_presentedBytes (f : ReadFormat) (v : Wide) :
    (BitVec.ofNat f.width.bits (beNat (presentedBytes f v))).toInt = f.present v := by
  obtain ⟨hlow, hhigh⟩ := f.present_fits v
  calc (wordOf f.width.bits (presentedBytes f v)).toInt
      = (BitVec.ofInt f.width.bits (f.present v)).toInt :=
        congrArg _ (wordOf_wordBytes _ _ f.width.two_pow_bits)
    _ = f.present v := BitVec.toInt_ofInt_eq_self f.width.bits_pos hlow (Int.lt_of_le_sub_one hhigh)

theorem Width.eq_bits_of_narrow {u : Width} {w : Nat}
    (h : u = .w16 ∧ w = 16 ∨ u = .w32 ∧ w = 32 ∨ u = .w64 ∧ w = 64) : u ≠ .raw ∧ w = u.bits := by
  obtain ⟨rfl, rfl⟩ | ⟨rfl, rfl⟩ | ⟨rfl, rfl⟩ := h <;> exact ⟨by decide, rfl⟩

/-- Settles O48: the two bounds on `x` say that it is the shifted value, and the width step is read off case by case. -/
theorem presentedValueIsExact : Obligations.PresentedValueIsExact := by
  refine ⟨beBytes_getElem?, fun _ _ _ => rfl, rfl, beNat_concat, fun f v =>
    ⟨fun x => ?_, presentedBytes_length f v, toInt_beNat_presentedBytes f v⟩⟩
  intro k added hfrom hbelow
  have hx : f.shifted v.toInt = x := (f.shifted_eq_iff v.toInt x).mpr ⟨hfrom, hbelow⟩
  obtain ⟨hlow, hhigh⟩ := f.shifted_fits v
  obtain ⟨hpresentLow, hpresentHigh⟩ := f.present_fits v
  have hpresent : f.present v = f.narrowed x := congrArg f.narrowed hx
  have hclamped : f.clamped v = f.clamps x := congrArg f.clamps hx
  rw [hx] at hlow hhigh
  rw [hpresent] at hpresentLow hpresentHigh
  rw [hpresent, hclamped]
  refine ⟨hlow, hhigh, fun hw => ReadFormat.narrowed_raw hw x, fun w h => ?_⟩
  obtain ⟨hw, rfl⟩ := Width.eq_bits_of_narrow h
  exact ⟨f.narrowed_inside, fun hl => ReadFormat.narrowed_above hw hl x, fun hl => ReadFormat.narrowed_below hw hl x,
    fun hl => ⟨ReadFormat.dvd_narrowed_sub hw hl x, hpresentLow, hpresentHigh, (ReadFormat.narrowed_wrap hw hl x).2⟩⟩

/-! ### READ_LIVE (R120, R122, R123) -/

theorem exec_readLive (p : Port) (s : State) :
    exec (.readLive p) s = .next (s.serveReply p .readLive readLiveOperands always (State.readLive p)) := rfl

theorem State.readLive_of_free {s : State} {a : AccIx} (p : Port) (asked : Option ReadFormat) (h : s.acc a = none) :
    s.readLive p (a, asked) = (s, .plain .gone) := by
  simp [State.readLive, h]

theorem State.readLive_of_no_access {s : State} {a : AccIx} {r : Accumulator} {p : Port} (asked : Option ReadFormat)
    (h : s.acc a = some r) (hp : ¬ r.access p = true) : s.readLive p (a, asked) = (s, .plain .notAuthorised) := by
  simp [State.readLive, h, hp]

/-- The response of READ_LIVE, written out (Table 11-10). -/
theorem livePayload_sent (format : ReadFormat) (r : Accumulator) :
    livePayload format r = [format.sentPresentation r.live, if r.saturated then 0x01 else 0x00] ++
      wordBytes 6 r.openSequence ++ wordBytes 4 r.count ++ presentedBytes format r.live := by
  unfold livePayload
  rw [presentation_sent]
  cases r.saturated <;> rfl

theorem State.readLive_of_access {s : State} {a : AccIx} {r : Accumulator} {p : Port} (asked : Option ReadFormat)
    (h : s.acc a = some r) (hp : r.access p = true) :
    s.readLive p (a, asked) = (s, .okay (livePayload (asked.getD (((r.reader p).map (·.format)).getD
      { shift := 0, rounding := .truncate, width := .raw, limit := .wrap })) r)) := by
  simp [State.readLive, h, hp, Accumulator.formatFor_eq]

/-- Settles O49: each reply of READ_LIVE on the state its request has left, which no reply changes. -/
theorem readLiveReportsTheRecord : Obligations.ReadLiveReportsTheRecord := by
  intro p s f a asked h hf
  have hx : readLiveOperands f.payload = .ok (a, asked) := hf ▸ readLiveOperands_sent a asked
  rw [exec_readLive]
  refine ⟨fun ha => congrArg _ (State.serveReply_next h hx (State.readLive_of_free p asked ha)),
    fun r ha => congrArg _ ?_⟩
  rw [← livePayload_sent]
  split
  · next hp => exact State.serveReply_next h hx (State.readLive_of_access asked ha ((r.access_iff p).mpr hp))
  · next hp => exact State.serveReply_next h hx (State.readLive_of_no_access asked ha (mt (r.access_iff p).mp hp))

end Sys2Proof.Machine
end

section
/-! PROOF. MON_CREATE, MON_ATTACH and MON_FREE (O55, O56). -/

namespace Sys2Proof.Machine

/-! ### The three commands -/

theorem exec_monCreate (p : Port) (s : State) :
    exec (.monCreate p) s = .next (s.serveReply p .monCreate monCreateOperands always (State.monCreate p)) := rfl

theorem exec_monAttach (p : Port) (s : State) :
    exec (.monAttach p) s = .next (s.serveReply p .monAttach monAttachOperands always (State.monAttach p)) := rfl

theorem exec_monFree (p : Port) (s : State) :
    exec (.monFree p) s = .next (s.serveReply p .monFree monOperand always (State.monFree p)) := rfl

theorem monAttachOperands_sent (i : MonIx) (a : AccIx) : monAttachOperands [byte i.val, byte a.val] = .ok (i, a) := by
  simp [monAttachOperands, checkFields]

theorem State.popped_setMonitor (s : State) (p : Port) (i : MonIx) (m : Option Monitor) :
    (s.popped p).setMonitor i m = (s.setMonitor i m).popped p := rfl

/-! ### MON_CREATE (R130, R131) -/

theorem State.freeMonitor_of_least {s : State} {i : MonIx} (hi : s.monitor i = none)
    (hbelow : ∀ k, k < i → (s.monitor k).isSome = true) : s.freeMonitor = some i :=
  have hall : ∀ i : MonIx, i ∈ allMonitors := by decide
  find?_of_least (by decide) (hall i) (by simp [hi]) fun k hk => by simpa using hbelow k hk

theorem State.freeMonitor_of_full {s : State} (h : ∀ i, (s.monitor i).isSome = true) : s.freeMonitor = none :=
  List.find?_eq_none.mpr fun i _ => by simpa [Option.isSome_iff_ne_none] using h i

theorem State.monCreate_of_free {s : State} {a : AccIx} (p : Port) (c : MonitorConfig) (h : s.acc a = none) :
    s.monCreate p (a, c) = (s, .plain .gone) := by
  simp [State.monCreate, h]

theorem State.monCreate_of_no_access {s : State} {a : AccIx} {r : Accumulator} {p : Port} (c : MonitorConfig)
    (h : s.acc a = some r) (hp : ¬ r.access p = true) : s.monCreate p (a, c) = (s, .plain .notAuthorised) := by
  simp [State.monCreate, h, hp]

theorem State.monCreate_of_full {s : State} {a : AccIx} {r : Accumulator} {p : Port} (c : MonitorConfig)
    (h : s.acc a = some r) (hp : r.access p = true) (hfull : s.freeMonitor = none) :
    s.monCreate p (a, c) = (s, .plain .noMonitor) := by
  simp [State.monCreate, h, hp, hfull]

theorem State.monCreate_of_room {s : State} {a : AccIx} {r : Accumulator} {p : Port} {i : MonIx} (c : MonitorConfig)
    (h : s.acc a = some r) (hp : r.access p = true) (hi : s.freeMonitor = some i) :
    s.monCreate p (a, c) =
      (s.setMonitor i (some { armed := true, owner := p, acc := a, config := c, region := .unknown }),
        .okay [byte i.val]) := by
  simp [State.monCreate, h, hp, hi]

/-- Settles O55: each reply of MON_CREATE on the state its request has left. -/
theorem monCreateArmsTheLowestFree : Obligations.MonCreateArmsTheLowestFree := by
  intro p s f a c h hbounds hmargin hf
  have hx : monCreateOperands f.payload = .ok (a, c) := hf ▸ monCreateOperands_sent a c hbounds hmargin
  rw [exec_monCreate]
  refine ⟨fun ha => congrArg _ (State.serveReply_next h hx (State.monCreate_of_free p c ha)), fun r ha => ?_⟩
  intro access
  have haccess : r.access p = true ↔ access := r.access_iff p
  refine ⟨fun hp => congrArg _ ?_, fun hp hfull => congrArg _ ?_, fun i hp hi hbelow => congrArg _ ?_⟩
  · exact State.serveReply_next h hx (State.monCreate_of_no_access c ha (mt haccess.mp hp))
  · have hnone : (s.popped p).freeMonitor = none := State.freeMonitor_of_full hfull
    exact State.serveReply_next h hx (State.monCreate_of_full c ha (haccess.mpr hp) hnone)
  · have hleast : (s.popped p).freeMonitor = some i := State.freeMonitor_of_least hi hbelow
    rw [State.serveReply_next h hx (State.monCreate_of_room c ha (haccess.mpr hp) hleast), State.popped_setMonitor]
    rfl

/-! ### MON_ATTACH (R138) -/

theorem State.monAttach_of_free_acc {s : State} {a : AccIx} (p : Port) (i : MonIx) (h : s.acc a = none) :
    s.monAttach p (i, a) = (s, .plain .gone) := by
  simp [State.monAttach, h]

theorem State.monAttach_of_free_monitor {s : State} {a : AccIx} {r : Accumulator} {i : MonIx} (p : Port)
    (h : s.acc a = some r) (hi : s.monitor i = none) : s.monAttach p (i, a) = (s, .plain .badState) := by
  simp [State.monAttach, h, hi]

/-- MON_ATTACH of a monitor in use to a record in use, its checks in the order of R138. -/
theorem State.monAttach_of_inUse {s : State} {a : AccIx} {r : Accumulator} {i : MonIx} {m : Monitor} (p : Port)
    (h : s.acc a = some r) (hi : s.monitor i = some m) : s.monAttach p (i, a) =
      if m.owner ≠ p then (s, .plain .notOwner)
      else if m.armed = true then (s, .plain .badState)
      else if r.owner = some p ∨ r.isContributor p = true ∨ (r.reader p).isSome = true then
        (s.setMonitor i (some { m with armed := true, acc := a, region := .unknown }), .okay [])
      else (s, .plain .notAuthorised) := by
  simp only [State.monAttach, h, hi, r.access_iff p]

/-! ### MON_FREE (R140) -/

theorem State.monFree_of_free {s : State} {i : MonIx} (p : Port) (h : s.monitor i = none) :
    s.monFree p i = (s, .plain .badState) := by
  simp [State.monFree, h]

theorem State.monFree_of_inUse {s : State} {i : MonIx} {m : Monitor} (p : Port) (h : s.monitor i = some m) :
    s.monFree p i = if m.owner = p then (s.setMonitor i none, .okay []) else (s, .plain .notOwner) := by
  simp [State.monFree, h]

/-- Settles O56: each reply of MON_ATTACH and of MON_FREE on the state its request has left. -/
theorem monitorsAreRearmedAndFreed : Obligations.MonitorsAreRearmedAndFreed := by
  intro p s f i
  rw [exec_monAttach, exec_monFree]
  refine ⟨fun a h hf => ?_, fun h hf => ?_⟩
  · have hx : monAttachOperands f.payload = .ok (i, a) := hf ▸ monAttachOperands_sent i a
    refine ⟨fun ha => congrArg _ (State.serveReply_next h hx (State.monAttach_of_free_acc p i ha)),
      fun r ha hi => congrArg _ (State.serveReply_next h hx (State.monAttach_of_free_monitor p ha hi)),
      fun r m ha hi => congrArg _ ?_⟩
    have hc := State.monAttach_of_inUse (s := s.popped p) p ha hi
    rw [State.popped_setMonitor] at hc
    split_ifs at hc ⊢ <;> exact State.serveReply_next h hx hc
  · have hx : monOperand f.payload = .ok i := monOperand_byte hf
    refine ⟨fun hi => congrArg _ (State.serveReply_next h hx (State.monFree_of_free p hi)), fun m hi => congrArg _ ?_⟩
    have hc := State.monFree_of_inUse (s := s.popped p) p hi
    rw [State.popped_setMonitor] at hc
    split_ifs at hc ⊢ <;> exact State.serveReply_next h hx hc

end Sys2Proof.Machine
end

section
/-! PROOF. Regions and the evaluation of handed-over values (O57, O58). -/

namespace Sys2Proof.Machine

/-! ### The region machine (R133) -/

/-- The bound tests of R130 as facts on exact integers. -/
theorem boundsDefined_iff (low high : Word64) (hysteresis : Word32) :
    boundsDefined low high hysteresis = true ↔
      low.toInt ≤ high.toInt ∧ 2 * (hysteresis.toNat : Int) ≤ high.toInt - low.toInt := by
  simp [boundsDefined]

section
variable {c : MonitorConfig} (hc : boundsDefined c.low c.high c.hysteresis = true) (before : Region) (v : Int)
include hc

theorem MonitorConfig.regionAfter_above_iff : c.regionAfter before v = .above ↔
    c.high.toInt < v ∨ (before = .above ∧ c.high.toInt - c.hysteresis.toNat < v) := by
  obtain ⟨hband, hmargin⟩ := (boundsDefined_iff _ _ _).mp hc
  cases before
  all_goals
    simp only [MonitorConfig.regionAfter]
    split_ifs <;> simp <;> omega

theorem MonitorConfig.regionAfter_below_iff : c.regionAfter before v = .below ↔
    v < c.low.toInt ∨ (before = .below ∧ v < c.low.toInt + c.hysteresis.toNat) := by
  obtain ⟨hband, hmargin⟩ := (boundsDefined_iff _ _ _).mp hc
  cases before
  all_goals
    simp only [MonitorConfig.regionAfter]
    split_ifs <;> simp <;> omega

end

theorem MonitorConfig.regionAfter_ne_unknown (c : MonitorConfig) (before : Region) (v : Int) :
    c.regionAfter before v ≠ .unknown := by
  cases before <;> simp only [MonitorConfig.regionAfter] <;> split_ifs <;> decide

/-- A region that is known is INSIDE exactly when it is neither of the others. -/
theorem Region.eq_inside_iff {r : Region} (h : r ≠ .unknown) : r = .inside ↔ r ≠ .above ∧ r ≠ .below := by
  cases r <;> simp at h ⊢

theorem MonitorConfig.regionAfter_inside_iff {c : MonitorConfig}
    (hc : boundsDefined c.low c.high c.hysteresis = true) (before : Region) (v : Int) :
    c.regionAfter before v = .inside ↔ c.low.toInt ≤ v ∧ v ≤ c.high.toInt ∧
      (before = .above → v ≤ c.high.toInt - c.hysteresis.toNat) ∧
      (before = .below → c.low.toInt + c.hysteresis.toNat ≤ v) := by
  rw [Region.eq_inside_iff (c.regionAfter_ne_unknown before v), Ne, Ne, regionAfter_above_iff hc,
    regionAfter_below_iff hc]
  simp only [not_or, not_and, not_lt]
  tauto

/-! ### One monitor judges a value (R133 to R135) -/

/-- A monitor after it has judged the value `v` (R133). -/
def Monitor.after (m : Monitor) (v : Int) : Monitor := { m with region := m.config.regionAfter m.region v }

/-- What the monitor `i` tells port `q` of its judgement of the value `v`, with `r` the record it watches (R134, R135). -/
def Monitor.thresholdNotice (m : Monitor) (r : Option Accumulator) (v : Int) (tick : Word32) (i : MonIx) (q : Port) :
    Option EventRecord :=
  if m.config.reports m.region (m.after v).region ∧
      (m.owner = q ∨ (m.config.notifyReaders = true ∧ ∃ x ∈ r, (x.reader q).isSome = true)) then
    some ⟨.threshold i m.acc (m.after v).region (BitVec.ofInt 64 (max (-(2 ^ 63)) (min (2 ^ 63 - 1) v))), tick⟩
  else none

theorem clamp64_eq (v : Int) : clamp64 v = BitVec.ofInt 64 (max (-(2 ^ 63)) (min (2 ^ 63 - 1) v)) := by
  unfold clamp64
  split_ifs with habove hbelow
  · rw [min_eq_left habove.le, max_eq_right (by norm_num)]
  · rw [min_eq_right (not_lt.mp habove), max_eq_left hbelow.le]
  · rw [min_eq_right (not_lt.mp habove), max_eq_right (not_lt.mp hbelow)]

theorem Monitor.thresholdNotice_of_reported {m : Monitor} {v : Int}
    (h : m.config.reports m.region (m.after v).region = true) (r : Option Accumulator) (tick : Word32) (i : MonIx)
    (q : Port) : (m.thresholdNotice r v tick i q).toList =
      toEach (fun q => m.owner == q || (m.config.notifyReaders && r.any fun r => (r.reader q).isSome))
        ⟨.threshold i m.acc (m.after v).region (clamp64 v), tick⟩ q := by
  have hwho : (m.owner == q || (m.config.notifyReaders && r.any fun r => (r.reader q).isSome)) = true ↔
      m.owner = q ∨ (m.config.notifyReaders = true ∧ ∃ x ∈ r, (x.reader q).isSome = true) := by
    cases r <;> simp
  unfold Monitor.thresholdNotice toEach
  simp only [h, true_and, hwho, clamp64_eq]
  split <;> rfl

theorem Monitor.thresholdNotice_of_not_reported {m : Monitor} {v : Int}
    (h : ¬ m.config.reports m.region (m.after v).region = true) (r : Option Accumulator) (tick : Word32) (i : MonIx)
    (q : Port) : m.thresholdNotice r v tick i q = none :=
  if_neg fun hr => h hr.1

/-- A judgement, as posts and one record. -/
theorem State.judgeMonitor_eq (s : State) (i : MonIx) (m : Monitor) (v : Int) :
    s.judgeMonitor i m v =
      (s.posted fun q => (m.thresholdNotice (s.acc m.acc) v s.tick i q).toList).setMonitor i (some (m.after v)) := by
  by_cases h : m.config.reports m.region (m.after v).region = true
  · simp only [Monitor.thresholdNotice_of_reported h]
    exact (if_pos h).trans (State.postEach_filter _ _ _)
  · simp only [Monitor.thresholdNotice_of_not_reported h, Option.toList_none, State.posted_nothing]
    exact if_neg h

/-- Settles O57: the region from its three equivalences, and the record from the judgement as posts and one record. -/
theorem regionFollowsTheTable : Obligations.RegionFollowsTheTable := by
  intro c before v hc
  refine ⟨MonitorConfig.regionAfter_above_iff hc before v, MonitorConfig.regionAfter_below_iff hc before v,
    MonitorConfig.regionAfter_inside_iff hc before v, c.regionAfter_ne_unknown before v, ?_⟩
  rintro s i m rfl rfl
  rw [State.judgeMonitor_eq, State.setMonitor_monitor_self]
  rfl

/-! ### All monitors meet the values handed over (R132, R134, R135) -/

/-- An ARMED monitor of `a` judges the value that its source takes. -/
theorem Monitor.judges_of_met {m : Monitor} {a : AccIx} (h : m.armed ∧ m.acc = a) (live : Wide) (closed : Option Wide) :
    m.judges a live closed = m.config.source.value live closed := by
  obtain ⟨harmed, hacc⟩ := h
  cases hsource : m.config.source <;> simp [Monitor.judges, Source.value, harmed, hacc, hsource]

theorem Monitor.judges_of_not_met {m : Monitor} {a : AccIx} (h : ¬ (m.armed ∧ m.acc = a)) (live : Wide)
    (closed : Option Wide) : m.judges a live closed = none := by
  have hmiss : (m.armed && m.acc == a) = false := by simpa using h
  simp [Monitor.judges, hmiss]

theorem Monitor.acc_of_judges {m : Monitor} {a : AccIx} {live v : Wide} {closed : Option Wide}
    (h : m.judges a live closed = some v) : m.acc = a := by
  by_contra hne
  rw [Monitor.judges_of_not_met fun hmet => hne hmet.2] at h
  cases h

/-- A monitor after the values handed over for `a` (R132, R133). -/
def Monitor.afterValues (m : Monitor) (a : AccIx) (live : Wide) (closed : Option Wide) : Monitor :=
  match m.judges a live closed with
  | some v => m.after v.toInt
  | none => m

/-- A monitor in use meets the values handed over: it judges the one that is for it, if any (R132). -/
theorem State.evaluateOne_of_inUse {s : State} {i : MonIx} {m : Monitor} (h : s.monitor i = some m) (a : AccIx)
    (live : Wide) (closed : Option Wide) : State.evaluateOne a live closed s i =
      (m.judges a live closed).elim s fun v => s.judgeMonitor i m v.toInt := by
  unfold State.evaluateOne
  by_cases hmet : m.armed ∧ m.acc = a
  · simp only [h, if_pos hmet, Monitor.judges_of_met hmet]
    cases m.config.source.value live closed <;> rfl
  · simp only [h, if_neg hmet, Monitor.judges_of_not_met hmet, Option.elim_none]

/-- One monitor's turn: it tells its judgement and takes its new region when a value is for it, and stands as it was
otherwise. -/
theorem State.evaluateOne_eq_monitorStep (a : AccIx) (live : Wide) (closed : Option Wide) (s : State) (i : MonIx) :
    State.evaluateOne a live closed s i = s.monitorStep
      (fun i m q => (m.judges a live closed).bind fun v => m.thresholdNotice (s.acc a) v.toInt s.tick i q)
      (fun m => m.afterValues a live closed) i := by
  have same := s.setMonitor_monitor_eq i
  cases hm : s.monitor i with
  | none =>
    rw [hm] at same
    simp [State.evaluateOne, State.monitorStep, hm, same]
  | some m =>
    rw [hm] at same
    rw [State.evaluateOne_of_inUse hm]
    unfold State.monitorStep
    cases hv : m.judges a live closed with
    | none => simp [Monitor.afterValues, hm, hv, same]
    | some v =>
      simp only [Monitor.afterValues, hm, hv, Option.elim_some, Option.bind_some, Option.map_some,
        State.judgeMonitor_eq, Monitor.acc_of_judges hv]

theorem State.SameButMonitors.acc_eq {s t : State} (h : s.SameButMonitors t) (a : AccIx) : t.acc a = s.acc a := by
  rw [h]
  rfl

/-- An evaluation, as posts and a table. -/
theorem State.evaluate_eq (s : State) (a : AccIx) (live : Wide) (closed : Option Wide) :
    s.evaluate a live closed =
      (s.posted (s.thresholdNotices a (s.acc a) live closed)).withMonitors (s.judgedMonitors a live closed) :=
  State.foldl_allMonitors (State.evaluateOne_sameButMonitors a live closed) fun t ht i => by
    rw [State.evaluateOne_eq_monitorStep, ht.tick_eq, ht.acc_eq]
    rfl

/-- The changes that are reported: to a region in the mask, and not from UNKNOWN to INSIDE (R134). -/
theorem MonitorConfig.reports_iff (c : MonitorConfig) (r r' : Region) : c.reports r r' = true ↔
    r ≠ r' ∧ ((r' = .inside ∧ r ≠ .unknown ∧ c.toInside = true) ∨ (r' = .above ∧ c.toAbove = true) ∨
      (r' = .below ∧ c.toBelow = true)) := by
  cases r' with
  | inside => cases r <;> simp [MonitorConfig.reports, MonitorConfig.masks]
  | unknown | above | below => simp [MonitorConfig.reports, MonitorConfig.masks]

/-- Settles O58: the pass over the monitors as posts and a table, and the rule of the report mask. -/
theorem evaluationPostsReportedChanges : Obligations.EvaluationPostsReportedChanges :=
  fun s a live closed => ⟨s.evaluate_eq a live closed, MonitorConfig.reports_iff⟩

end Sys2Proof.Machine
end

section
/-! PROOF. Event queues: the post against a queue as it stands (O59) and EVENT_FETCH (O60). -/

namespace Sys2Proof.Machine

/-! ### Posts (R146, R147, R149) -/

/-- A queue without the marker takes the event itself while it has room, and then begins the marker. -/
theorem enqueue_of_no_marker {q : List EventRecord} (h : ∀ y ∈ q, y.isMarker = false) (e : EventRecord) :
    enqueue q e = if q.length < 15 then q ++ [e] else q ++ [⟨.eventsLost 1, e.tick⟩] := by
  unfold enqueue
  split
  · next n t hlast =>
    have hmarker : (⟨.eventsLost n, t⟩ : EventRecord).isMarker = false := h _ (List.mem_of_getLast? hlast)
    cases hmarker
  · rfl

/-- A queue that ends in the marker keeps its records, and the marker counts the event. -/
theorem enqueue_of_marker (before : List EventRecord) (n : Nat) (t : Word32) (e : EventRecord) :
    enqueue (before ++ [⟨.eventsLost n, t⟩]) e = before ++ [⟨.eventsLost (min (n + 1) 65535), t⟩] := by
  simp [enqueue]

theorem State.post_of_closed {s : State} {p : Port} (h : (s.session p).isOpen = false) (e : Event) : s.post p e = s :=
  if_neg fun ⟨hopen, _⟩ => Bool.false_ne_true (h.symm.trans hopen)

theorem State.post_of_open {s : State} {p : Port} (h : (s.session p).isOpen = true) (e : Event) :
    s.post p e = s.setEvents p (enqueue (s.events p) ⟨e, s.tick⟩) := if_pos ⟨h, rfl⟩

/-- Settles O59: a CLOSED port stores nothing; in OPEN the queue without the marker and the queue that ends in it. -/
theorem postsFollowTheQueueRule : Obligations.PostsFollowTheQueueRule := by
  intro s p e q x
  refine ⟨fun hclosed => State.post_of_closed hclosed e, fun hopen => ?_⟩
  rw [State.post_of_open hopen]
  refine ⟨fun hno hroom => ?_, fun hno hfull => ?_, fun before n t hq => ?_⟩
  · rw [enqueue_of_no_marker hno, if_pos hroom]
  · rw [enqueue_of_no_marker hno, if_neg (Nat.not_lt.mpr hfull)]
  · exact congrArg (s.setEvents p) ((congrArg (enqueue · x) hq).trans (enqueue_of_marker before n t x))

/-! ### Requests that the decoder answers itself (R156, R182) -/

section
variable {α : Type} {s : State} {p : Port} {k : Kind} {f : Frame} {operands : List Byte → Except Status α}

/-- In CLOSED a request other than OPEN that the decoder does not hold is refused. -/
theorem State.serveReply_of_closed (ready : State → α → Bool) (take : State → α → State × Reply) (h : s.HeadIs p k f)
    (hk : k ≠ .openSession) (hclosed : (s.session p).isOpen = false) (hholding : (s.port p).holding = false) :
    s.serveReply p k operands ready take = s.answered p f .noSession [] := by
  have hrefuses : s.sessionRefuses p k = true := by simp [State.sessionRefuses, hclosed, hholding, hk]
  unfold State.serveReply
  rw [State.serve_eq _ _ _ h, if_pos hrefuses]

/-- A payload that fails the checks is answered with what they found. -/
theorem State.serveReply_of_error {st : Status} (ready : State → α → Bool) (take : State → α → State × Reply)
    (h : s.Asks p k f) (hx : operands f.payload = .error st) :
    s.serveReply p k operands ready take = s.answered p f st [] := by
  obtain ⟨hhead, hopen⟩ := h
  unfold State.serveReply
  rw [State.serve_eq _ _ _ hhead, State.sessionRefuses_open k hopen, hx]
  rfl

end

/-! ### EVENT_FETCH (R150) -/

theorem exec_eventFetch (p : Port) (s : State) :
    exec (.eventFetch p) s = .next (s.serveReply p .eventFetch fetchOperands always (State.eventFetch p)) := rfl

theorem fetchOperands_of_within {b : Byte} (h1 : 1 ≤ b.toNat) (h8 : b.toNat ≤ 8) : fetchOperands [b] = .ok b.toNat :=
  congrArg checkFields (boundedField_eq h1 h8)

theorem fetchOperands_of_outside {b : Byte} (h : b.toNat = 0 ∨ 8 < b.toNat) : fetchOperands [b] = .error .badField :=
  congrArg checkFields (if_neg (by omega))

theorem State.popped_setEvents (s : State) (p : Port) (l : List EventRecord) :
    (s.popped p).setEvents p l = (s.setEvents p l).popped p := rfl

theorem fetchPayload_sent (taken : List EventRecord) (remaining : Nat) :
    fetchPayload taken remaining = byte taken.length :: byte remaining :: taken.flatMap EventRecord.sent := by
  rw [fetchPayload, funext EventRecord.bytes_sent]
  rfl

/-- The number removed is the smaller of the maximum and the number of records held, and the records removed stand first. -/
theorem State.eventFetch_of_split {s : State} {p : Port} {maximum : Nat} {taken left : List EventRecord}
    (hsplit : s.events p = taken ++ left) (hlength : taken.length = min maximum (s.events p).length) :
    s.eventFetch p maximum =
      (s.setEvents p left, .okay (byte taken.length :: byte left.length :: taken.flatMap EventRecord.sent)) := by
  have htake : (s.events p).take maximum = taken := by
    rw [List.take_eq_take_min, ← hlength, hsplit, List.take_left]
  have hdrop : (s.events p).drop maximum = left := by
    rw [← List.append_cancel_left_eq taken, ← hsplit, ← htake, List.take_append_drop]
  rw [State.eventFetch, htake, hdrop, fetchPayload_sent]

/-- Settles O60: EVENT_FETCH in CLOSED, with a maximum outside its bounds, and taken on the state its request has left. -/
theorem eventFetchRemovesTheOldest : Obligations.EventFetchRemovesTheOldest := by
  intro p s f b h hf
  rw [exec_eventFetch]
  refine ⟨fun hclosed hholding => ?closed, fun hopen hout => ?outside,
    fun taken left hopen h1 h8 hsplit hlength => ?within⟩
  case closed => rw [State.serveReply_of_closed _ _ h (by decide) hclosed hholding]
  case outside =>
    have hx : fetchOperands f.payload = .error .badField := hf ▸ fetchOperands_of_outside hout
    rw [State.serveReply_of_error _ _ ⟨h, hopen⟩ hx]
  case within =>
    have hx : fetchOperands f.payload = .ok b.toNat := hf ▸ fetchOperands_of_within h1 h8
    have hfetch := State.eventFetch_of_split (s := s.popped p) hsplit hlength
    rw [State.serveReply_next ⟨h, hopen⟩ hx hfetch, State.popped_setEvents]
    rfl

end Sys2Proof.Machine
end

section
/-! PROOF. What a port shows: the bits of the status header, its CAUSE code, LEASE_LOW and ATTNn (O18). -/

namespace Sys2Proof.Machine

/-! ### A flag above a number of fewer bits -/

/-- Below bit `k` there is nothing to carry from, so the sum is the two numbers laid over one another. -/
theorem flagBit_add_eq_or {k n : Nat} (b : Bool) (h : n < 2 ^ k) : flagBit k b + n = flagBit k b ||| n := by
  cases b with
  | false => simp [flagBit]
  | true => simpa [flagBit] using Nat.two_pow_add_eq_or_of_lt h 1

theorem flagBit_add_lt {k n : Nat} (b : Bool) (h : n < 2 ^ k) : flagBit k b + n < 2 ^ (k + 1) := by
  have hflag : flagBit k b ≤ 2 ^ k := by cases b <;> simp [flagBit]
  omega

theorem testBit_flagBit_add {k n : Nat} (b : Bool) (h : n < 2 ^ k) (j : Nat) :
    (flagBit k b + n).testBit j = if j = k then b else n.testBit j := by
  rw [flagBit_add_eq_or b h, Nat.testBit_or]
  split
  next hj => cases b <;> simp [flagBit, hj, Nat.testBit_lt_two_pow h]
  next hj => cases b <;> simp [flagBit, Nat.testBit_two_pow_of_ne (Ne.symm hj)]

/-! ### The status header (R185, Table 11-16) -/

theorem RefusalCause.code_lt (c : RefusalCause) : c.code < 2 ^ 2 := by cases c <;> decide

/-- The header byte bit by bit, from the highest: six flags above the CAUSE code, each over a sum that stays below it. -/
theorem State.header_getLsbD (s : State) (p : Port) (j : Nat) :
    (s.header p).getLsbD j =
      if j = 7 then !(s.port p).responses.isEmpty
      else if j = 6 then !(s.events p).isEmpty
      else if j = 5 then (s.session p).isOpen
      else if j = 4 then (s.session p).leaseLow
      else if j = 3 then (s.port p).refused
      else if j = 2 then (s.port p).expired
      else (s.port p).cause.code.testBit j := by
  have h2 := (s.port p).cause.code_lt
  have h3 := flagBit_add_lt (s.port p).expired h2
  have h4 := flagBit_add_lt (s.port p).refused h3
  have h5 := flagBit_add_lt (s.session p).leaseLow h4
  have h6 := flagBit_add_lt (s.session p).isOpen h5
  have h7 := flagBit_add_lt (!(s.events p).isEmpty) h6
  have h8 := flagBit_add_lt (!(s.port p).responses.isEmpty) h7
  simp only [State.header, Nat.add_assoc]
  rw [← BitVec.testBit_toNat, byte_toNat h8, testBit_flagBit_add _ h7, testBit_flagBit_add _ h6,
    testBit_flagBit_add _ h5, testBit_flagBit_add _ h4, testBit_flagBit_add _ h3, testBit_flagBit_add _ h2]

/-- The two lowest bits of the header byte carry CAUSE. -/
theorem State.header_mod_four (s : State) (p : Port) : (s.header p).toNat % 4 = (s.port p).cause.code := by
  rw [← Nat.mod_eq_of_lt (s.port p).cause.code_lt]
  refine Nat.eq_of_testBit_eq fun j => ?_
  rw [show 4 = 2 ^ 2 from rfl, Nat.testBit_mod_two_pow, Nat.testBit_mod_two_pow, BitVec.testBit_toNat]
  by_cases hj : j < 2
  · simp (disch := omega) only [s.header_getLsbD p j, if_neg]
  · simp [hj]

/-! ### LEASE_LOW and ATTNn (R161, R186) -/

theorem Session.leaseLow_iff (r : Session) :
    r.leaseLow = true ↔ ∃ l, r.lease = some l ∧ 4 * l.remaining < l.length := by
  simp [Session.leaseLow, Option.any_eq_true]

theorem State.attention_iff (s : State) (p : Port) :
    s.attention p = true ↔ (s.port p).responses ≠ [] ∨ s.events p ≠ [] := by
  simp [State.attention]

/-- Settles O18: the six flags and CAUSE read off the header byte, and the two flags that are computed as their conditions. -/
theorem headerAndAttentionShowTheQueues : Obligations.HeaderAndAttentionShowTheQueues := by
  intro p s
  have hlease : (s.header p).getLsbD 4 = (s.session p).leaseLow := s.header_getLsbD p 4
  refine ⟨s.header_getLsbD p 7, s.header_getLsbD p 6, s.header_getLsbD p 5, hlease ▸ (s.session p).leaseLow_iff,
    s.header_getLsbD p 3, s.header_getLsbD p 2, (s.header_mod_four p).trans ?code, s.attention_iff p⟩
  case code => cases (s.port p).cause <;> rfl

end Sys2Proof.Machine
end

section
/-! PROOF. What the decoder refuses (O26): each payload reader against the lengths and fields that Tables 11-1 to 11-11
define, and every request's command as the decoder's serving of such a reader. -/

namespace Sys2Proof.Machine

/-! ### Numbers in bytes (R189) -/

theorem beNat_lt (l : List Byte) : beNat l < 256 ^ l.length := by
  induction l using List.reverseRecOn with
  | nil => simp [beNat]
  | append_singleton l b ih =>
    rw [beNat_concat, List.length_append, List.length_singleton, Nat.pow_succ]
    omega

theorem beNat_pair (b1 b0 : Byte) : beNat [b1, b0] = 256 * b1.toNat + b0.toNat := by simp [beNat, Nat.mul_comm]

/-! ### Fields (R191) -/

@[simp] theorem indexBelow_isSome (n k : Nat) : (indexBelow n k).isSome = decide (k < n) := by
  unfold indexBelow
  split <;> simp [*]

@[simp] theorem boundedField_isSome (lo hi n : Nat) : (boundedField lo hi n).isSome = decide (lo ≤ n ∧ n ≤ hi) := by
  unfold boundedField
  split <;> simp [*]

@[simp] theorem accField_isSome (b : Byte) : (accField b).isSome = decide (b.toNat < 32) := indexBelow_isSome _ _

@[simp] theorem groupField_isSome (b : Byte) : (groupField b).isSome = decide (b.toNat < 4) := indexBelow_isSome _ _

@[simp] theorem monField_isSome (b : Byte) : (monField b).isSome = decide (b.toNat < 16) := indexBelow_isSome _ _

@[simp] theorem portField_isSome (b : Byte) : (portField b).isSome = decide (b.toNat < 4) := indexBelow_isSome _ _

@[simp] theorem boolField_isSome (b : Byte) : (boolField b).isSome = decide (b.toNat < 2) := by revert b; decide

@[simp] theorem createField_isSome (b : Byte) : (createField b).isSome = decide (b.toNat < 32 ∨ b.toNat = 255) := by
  revert b; decide

@[simp] theorem offerField_isSome (b : Byte) : (offerField b).isSome = decide (b.toNat < 4 ∨ b.toNat = 255) := by
  revert b; decide

@[simp] theorem bindingField_isSome (b : Byte) : (bindingField b).isSome = decide (b.toNat < 4 ∨ b.toNat = 15) := by
  revert b; decide

@[simp] theorem policiesField_isSome (b binding : Byte) :
    (policiesField b binding).isSome = decide (b.toNat < 16 ∧ (binding.toNat < 4 ∨ binding.toNat = 15)) := by
  unfold policiesField
  split <;> simp [*]

@[simp] theorem formatField_isSome (b0 b1 : Byte) : (formatField b0 b1).isSome = decide (b1.toNat < 4) := by
  unfold formatField
  split <;> simp [*]

/-- Two bytes cannot pass the upper bound of a period or phase, so only the value 0 is refused. -/
theorem periodField_isSome (b1 b0 : Byte) :
    (boundedField 1 65535 (beNat [b1, b0])).isSome = decide (1 ≤ 256 * b1.toNat + b0.toNat) := by
  rw [boundedField_isSome, beNat_pair]
  exact decide_eq_decide.mpr (by omega)

/-! ### What a reader refuses -/

/-- What the decoder answers in place of the operands that a reader does not give. -/
def refusalOf {α : Type} : Except Status α → Option Status
  | .ok _ => none
  | .error st => some st

theorem refusalOf_eq_some {α : Type} {x : Except Status α} {st : Status} (h : refusalOf x = some st) :
    x = .error st := by
  cases x with
  | ok x => cases h
  | error e => exact congrArg Except.error (Option.some.inj h)

/-- The fields of a payload are judged last: where its length is right, its control byte is there and its pair count is
allowed, a reader that gives operands when the tables define the fields refuses what its kind refuses. -/
theorem Kind.refusalOf_checkFields_of_length {α : Type} {k : Kind} {l : List Byte} {o : Option α}
    (hlength : l.length ∈ k.lengths l) (hcontrol : k = .accumulate ∨ k = .load → 2 ≤ l.length)
    (hcount : k = .accumulate → ¬ (pairCount (l.getD 1 0) = 0 ∨ 16 < pairCount (l.getD 1 0)))
    (hfields : o.isSome = k.fieldsDefined l) : refusalOf (checkFields o) = k.refusal l := by
  have hlong : ¬ ((k = .accumulate ∨ k = .load) ∧ l.length < 2) := fun h => Nat.not_lt.mpr (hcontrol h.1) h.2
  have hpairs : ¬ (k = .accumulate ∧ (pairCount (l.getD 1 0) = 0 ∨ 16 < pairCount (l.getD 1 0))) :=
    fun h => hcount h.1 h.2
  calc
    refusalOf (checkFields o) = if o.isSome then none else some .badField := by cases o <;> rfl
    _ = if k.fieldsDefined l then none else some .badField := by rw [hfields]
    _ = k.refusal l := ((if_neg hlong).trans ((if_neg hpairs).trans (if_neg (not_not_intro hlength)))).symm

/-- The same for a kind without a control byte. -/
theorem Kind.refusalOf_checkFields {α : Type} {k : Kind} {l : List Byte} {o : Option α}
    (hk : k ≠ .accumulate ∧ k ≠ .load) (hlength : l.length ∈ k.lengths l) (hfields : o.isSome = k.fieldsDefined l) :
    refusalOf (checkFields o) = k.refusal l :=
  Kind.refusalOf_checkFields_of_length hlength (fun h => (not_or_intro hk.1 hk.2 h).elim) (fun h => (hk.1 h).elim) hfields

/-! ### The readers (Tables 11-4, 11-5 and 11-7)

Each reader is followed along its own cases: a payload of a right length is refused when one of its fields is undefined,
and every other payload is of a wrong length. A reader of several kinds is stated for the first of them; the others have
the same lengths and fields. -/

theorem openOperands_refusal : ∀ l, refusalOf (openOperands l) = Kind.openSession.refusal l
  | [b1, b0] => Kind.refusalOf_checkFields (by decide) (.head _) <| by
    simp [beNat_pair, Kind.fieldsDefined, Config.minLease, Config.maxLease]
  | [] | [_] | _ :: _ :: _ :: _ => rfl

theorem emptyOperands_refusal : ∀ l, refusalOf (emptyOperands l) = Kind.closeSession.refusal l
  | [] | _ :: _ => rfl

theorem createOperands_refusal : ∀ l, refusalOf (createOperands l) = Kind.accCreate.refusal l
  | [ix, pol, bind, depth] => Kind.refusalOf_checkFields (by decide) (.head _) <| calc
    _ = ((createField ix).isSome && (policiesField pol bind).isSome &&
        (boundedField 0 Config.maxDepth depth.toNat).isSome) := by
      cases createField ix <;> cases policiesField pol bind <;> cases boundedField 0 Config.maxDepth depth.toNat <;> rfl
    _ = _ := by simp [Kind.fieldsDefined, Config.maxDepth, Bool.and_assoc]
  | [] | [_] | [_, _] | [_, _, _] | _ :: _ :: _ :: _ :: _ :: _ => rfl

theorem configureOperands_refusal : ∀ l, refusalOf (configureOperands l) = Kind.accConfigure.refusal l
  | [ix, pol, bind] => Kind.refusalOf_checkFields (by decide) (.head _) <| calc
    _ = ((accField ix).isSome && (policiesField pol bind).isSome) := by
      cases accField ix <;> cases policiesField pol bind <;> rfl
    _ = _ := by simp [Kind.fieldsDefined]
  | [] | [_] | [_, _] | _ :: _ :: _ :: _ :: _ => rfl

theorem accOperand_refusal : ∀ l, refusalOf (accOperand l) = Kind.accRelease.refusal l
  | [ix] => Kind.refusalOf_checkFields (by decide) (.head _) (accField_isSome ix)
  | [] | _ :: _ :: _ => rfl

theorem grantOperands_refusal : ∀ l, refusalOf (grantOperands l) = Kind.accGrant.refusal l
  | [ix, target, action] => Kind.refusalOf_checkFields (by decide) (.head _) <| calc
    _ = ((accField ix).isSome && (portField target).isSome && (boolField action).isSome) := by
      cases accField ix <;> cases portField target <;> cases boolField action <;> rfl
    _ = _ := by simp [Kind.fieldsDefined, Bool.and_assoc]
  | [] | [_] | [_, _] | _ :: _ :: _ :: _ :: _ => rfl

theorem offerOperands_refusal : ∀ l, refusalOf (offerOperands l) = Kind.accOffer.refusal l
  | [ix, target, keep] => Kind.refusalOf_checkFields (by decide) (.head _) <| calc
    _ = ((accField ix).isSome && (offerField target).isSome && (boolField keep).isSome) := by
      cases accField ix <;> cases offerField target <;> cases boolField keep <;> rfl
    _ = _ := by simp [Kind.fieldsDefined, Bool.and_assoc]
  | [] | [_] | [_, _] | _ :: _ :: _ :: _ :: _ => rfl

theorem subscribeOperands_refusal : ∀ l, refusalOf (subscribeOperands l) = Kind.subscribe.refusal l
  | [ix, options, f0, f1] => Kind.refusalOf_checkFields (by decide) (.head _) <| calc
    _ = ((accField ix).isSome && decide (options.toNat < 4) && (formatField f0 f1).isSome) := by
      by_cases h : options.toNat < 4 <;> cases accField ix <;> cases formatField f0 f1 <;> simp [h]
    _ = _ := by simp [Kind.fieldsDefined, Bool.and_assoc]
  | [] | [_] | [_, _] | [_, _, _] | _ :: _ :: _ :: _ :: _ :: _ => rfl

/-- The pair count is judged before the length, and the accumulator and the reserved bit after it (R190). -/
theorem accumulateOperands_refusal : ∀ l, refusalOf (accumulateOperands l) = Kind.accumulate.refusal l
  | ix :: control :: rest => by
    have hlengths : (ix :: control :: rest).length ∈ Kind.accumulate.lengths (ix :: control :: rest) ↔
        rest.length = 8 * pairCount control + targetBytes control := by
      simp [Kind.lengths, pairCount, targetBytes]
      omega
    rw [accumulateOperands]
    by_cases hcount : pairCount control = 0 ∨ 16 < pairCount control
    case pos =>
      rw [if_pos hcount]
      exact (if_pos ⟨rfl, hcount⟩).symm
    rw [if_neg hcount]
    by_cases hlength : rest.length = 8 * pairCount control + targetBytes control
    case neg =>
      rw [if_pos hlength]
      exact ((if_neg fun h => hcount h.2).trans (if_pos (mt hlengths.mp hlength))).symm
    rw [if_neg (not_not_intro hlength)]
    refine Kind.refusalOf_checkFields_of_length (hlengths.mpr hlength) (by simp) (fun _ => hcount) ?_
    calc
      _ = ((accField ix).isSome && !control.getLsbD 5) := by cases accField ix <;> cases control.getLsbD 5 <;> rfl
      _ = _ := by simp [Kind.fieldsDefined]
  | [] | [_] => rfl

theorem loadOperands_refusal : ∀ l, refusalOf (loadOperands l) = Kind.load.refusal l
  | ix :: control :: rest => by
    have hlengths : (ix :: control :: rest).length ∈ Kind.load.lengths (ix :: control :: rest) ↔
        rest.length = 8 + targetBytes control := by
      simp [Kind.lengths, targetBytes]
      omega
    rw [loadOperands]
    by_cases hlength : rest.length = 8 + targetBytes control
    case neg =>
      rw [if_pos hlength]
      exact (if_pos (mt hlengths.mp hlength)).symm
    rw [if_neg (not_not_intro hlength)]
    refine Kind.refusalOf_checkFields_of_length (hlengths.mpr hlength) (by simp) (by simp) ?_
    calc
      _ = ((accField ix).isSome && (decide (control.toNat % 64 = 0) && !control.getLsbD 7)) := by
        cases accField ix with
        | none => rfl
        | some a => by_cases h : control.toNat % 64 = 0 <;> cases control.getLsbD 7 <;> simp [h]
      _ = _ := by simp [Kind.fieldsDefined, Bool.and_assoc]
  | [] | [_] => rfl

theorem closeWindowOperands_refusal (l : List Byte) : refusalOf (closeWindowOperands l) = Kind.closeWindow.refusal l := by
  have hsame : refusalOf (closeWindowOperands l) = refusalOf (accOperand l) := by
    unfold closeWindowOperands
    cases accOperand l <;> rfl
  exact hsame.trans (accOperand_refusal l)

theorem fenceOperands_refusal : ∀ l, refusalOf (fenceOperands l) = Kind.fence.refusal l
  | [] | _ :: _ => rfl

theorem cancelOperands_refusal : ∀ l, refusalOf (cancelOperands l) = Kind.jobCancel.refusal l
  | [_] | [] | _ :: _ :: _ => rfl

theorem readLiveOperands_refusal : ∀ l, refusalOf (readLiveOperands l) = Kind.readLive.refusal l
  | [ix] => Kind.refusalOf_checkFields (by decide) (.head _) <| by simp [Kind.fieldsDefined]
  | [ix, f0, f1] => Kind.refusalOf_checkFields (by decide) (.tail _ (.head _)) <| calc
    _ = ((accField ix).isSome && (formatField f0 f1).isSome) := by cases accField ix <;> cases formatField f0 f1 <;> rfl
    _ = _ := by simp [Kind.fieldsDefined]
  | [] | [_, _] | _ :: _ :: _ :: _ :: _ => rfl

theorem readHistoryOperands_refusal : ∀ l, refusalOf (readHistoryOperands l) = Kind.readHistory.refusal l
  | [ix, m] => Kind.refusalOf_checkFields (by decide) (.head _) <| calc
    _ = ((accField ix).isSome && (boundedField 1 4 m.toNat).isSome) := by
      cases accField ix <;> cases boundedField 1 4 m.toNat <;> rfl
    _ = _ := by simp [Kind.fieldsDefined]
  | [ix, m, f0, f1] => Kind.refusalOf_checkFields (by decide) (.tail _ (.head _)) <| calc
    _ = ((accField ix).isSome && (boundedField 1 4 m.toNat).isSome && (formatField f0 f1).isSome) := by
      cases accField ix <;> cases boundedField 1 4 m.toNat <;> cases formatField f0 f1 <;> rfl
    _ = _ := by simp [Kind.fieldsDefined, Bool.and_assoc]
  | [] | [_] | [_, _, _] | _ :: _ :: _ :: _ :: _ :: _ => rfl

theorem readRecordOperands_refusal : ∀ l, refusalOf (readRecordOperands l) = Kind.readRecord.refusal l
  | [ix, _, _, _, _, _, _] => Kind.refusalOf_checkFields (by decide) (.head _) <| by simp [Kind.fieldsDefined]
  | [] | [_] | [_, _] | [_, _, _] | [_, _, _, _] | [_, _, _, _, _] | [_, _, _, _, _, _]
  | _ :: _ :: _ :: _ :: _ :: _ :: _ :: _ :: _ => rfl

theorem resizeOperands_refusal : ∀ l, refusalOf (resizeOperands l) = Kind.historyResize.refusal l
  | [ix, depth] => Kind.refusalOf_checkFields (by decide) (.head _) <| calc
    _ = ((accField ix).isSome && (boundedField 0 Config.maxDepth depth.toNat).isSome) := by
      cases accField ix <;> cases boundedField 0 Config.maxDepth depth.toNat <;> rfl
    _ = _ := by simp [Kind.fieldsDefined, Config.maxDepth]
  | [] | [_] | _ :: _ :: _ :: _ => rfl

theorem groupOperand_refusal : ∀ l, refusalOf (groupOperand l) = Kind.groupClaim.refusal l
  | [g] => Kind.refusalOf_checkFields (by decide) (.head _) (groupField_isSome g)
  | [] | _ :: _ :: _ => rfl

theorem groupSetOperands_refusal : ∀ l, refusalOf (groupSetOperands l) = Kind.groupSet.refusal l
  | [g, b1, b0] => Kind.refusalOf_checkFields (by decide) (.head _) <| calc
    _ = ((groupField g).isSome && (boundedField 1 65535 (beNat [b1, b0])).isSome) := by
      cases groupField g <;> cases boundedField 1 65535 (beNat [b1, b0]) <;> rfl
    _ = _ := by simp only [groupField_isSome, periodField_isSome, ← Bool.decide_and]; rfl
  | [] | [_] | [_, _] | _ :: _ :: _ :: _ :: _ => rfl

theorem groupStartOperands_refusal : ∀ l, refusalOf (groupStartOperands l) = Kind.groupStart.refusal l
  | [g] => Kind.refusalOf_checkFields (by decide) (.head _) <| by simp [Kind.fieldsDefined]
  | [g, b1, b0] => Kind.refusalOf_checkFields (by decide) (.tail _ (.head _)) <| calc
    _ = ((groupField g).isSome && (boundedField 1 65535 (beNat [b1, b0])).isSome) := by
      cases groupField g <;> cases boundedField 1 65535 (beNat [b1, b0]) <;> rfl
    _ = _ := by rw [periodField_isSome]; simp [Kind.fieldsDefined]
  | [] | [_, _] | _ :: _ :: _ :: _ :: _ => rfl

theorem monCreateOperands_refusal : ∀ l, refusalOf (monCreateOperands l) = Kind.monCreate.refusal l
  | ix :: config :: rest => by
    by_cases hlength : rest.length = 20
    case neg => simp [monCreateOperands, Kind.refusal, Kind.lengths, hlength, refusalOf]
    have hhysteresis : (wordOf 32 (rest.drop 16)).toNat = beNat (rest.drop 16) := by
      refine Nat.mod_eq_of_lt ((beNat_lt _).trans_le ?_)
      simp [hlength]
    rw [monCreateOperands, if_neg (not_not_intro hlength)]
    refine Kind.refusalOf_checkFields (by decide) (by simp [Kind.lengths, hlength]) ?_
    calc
      _ = ((accField ix).isSome && (decide (config.toNat < 32) && boundsDefined (wordOf 64 (rest.take 8))
            (wordOf 64 ((rest.drop 8).take 8)) (wordOf 32 (rest.drop 16)))) := by
        cases accField ix with
        | none => rfl
        | some a => exact Bool.eq_iff_iff.mpr (by simp)
      _ = _ := by simp only [accField_isSome, boundsDefined, hhysteresis, ← Bool.decide_and]; rfl
  | [] | [_] => rfl

theorem monAttachOperands_refusal : ∀ l, refusalOf (monAttachOperands l) = Kind.monAttach.refusal l
  | [m, ix] => Kind.refusalOf_checkFields (by decide) (.head _) <| calc
    _ = ((monField m).isSome && (accField ix).isSome) := by cases monField m <;> cases accField ix <;> rfl
    _ = _ := by simp [Kind.fieldsDefined]
  | [] | [_] | _ :: _ :: _ :: _ => rfl

theorem monOperand_refusal : ∀ l, refusalOf (monOperand l) = Kind.monFree.refusal l
  | [m] => Kind.refusalOf_checkFields (by decide) (.head _) (monField_isSome m)
  | [] | _ :: _ :: _ => rfl

theorem fetchOperands_refusal : ∀ l, refusalOf (fetchOperands l) = Kind.eventFetch.refusal l
  | [m] => Kind.refusalOf_checkFields (by decide) (.head _) (boundedField_isSome 1 8 m.toNat)
  | [] | _ :: _ :: _ => rfl

/-! ### Every request is served by the decoder (R181, R182) -/

/-- The command of a kind is the decoder's serving of a reader that refuses what the tables refuse, before any block. -/
def Kind.Served (k : Kind) : Prop :=
  ∃ (α : Type) (operands : List Byte → Except Status α) (ready : Port → State → α → Bool)
    (take : Port → State → Byte → α → State), (∀ l, refusalOf (operands l) = k.refusal l) ∧
    ∀ p s, exec (k.command p) s = .next (s.serve p k operands (ready p) (take p))

theorem Kind.served : ∀ k : Kind, k.Served
  | .openSession => ⟨_, _, _, _, openOperands_refusal, fun _ _ => rfl⟩
  | .closeSession => ⟨_, _, _, _, emptyOperands_refusal, fun _ _ => rfl⟩
  | .portStatus => ⟨_, _, _, _, emptyOperands_refusal, fun _ _ => rfl⟩
  | .accCreate => ⟨_, _, _, _, createOperands_refusal, fun _ _ => rfl⟩
  | .accConfigure => ⟨_, _, _, _, configureOperands_refusal, fun _ _ => rfl⟩
  | .accRelease => ⟨_, _, _, _, accOperand_refusal, fun _ _ => rfl⟩
  | .accInfo => ⟨_, _, _, _, accOperand_refusal, fun _ _ => rfl⟩
  | .accGrant => ⟨_, _, _, _, grantOperands_refusal, fun _ _ => rfl⟩
  | .accOffer => ⟨_, _, _, _, offerOperands_refusal, fun _ _ => rfl⟩
  | .accAccept => ⟨_, _, _, _, accOperand_refusal, fun _ _ => rfl⟩
  | .accClaim => ⟨_, _, _, _, accOperand_refusal, fun _ _ => rfl⟩
  | .subscribe => ⟨_, _, _, _, subscribeOperands_refusal, fun _ _ => rfl⟩
  | .unsubscribe => ⟨_, _, _, _, accOperand_refusal, fun _ _ => rfl⟩
  | .accumulate => ⟨_, _, _, _, accumulateOperands_refusal, fun _ _ => rfl⟩
  | .load => ⟨_, _, _, _, loadOperands_refusal, fun _ _ => rfl⟩
  | .closeWindow => ⟨_, _, _, _, closeWindowOperands_refusal, fun _ _ => rfl⟩
  | .fence => ⟨_, _, _, _, fenceOperands_refusal, fun _ _ => rfl⟩
  | .jobCancel => ⟨_, _, _, _, cancelOperands_refusal, fun _ _ => rfl⟩
  | .readLive => ⟨_, _, _, _, readLiveOperands_refusal, fun _ _ => rfl⟩
  | .readHistory => ⟨_, _, _, _, readHistoryOperands_refusal, fun _ _ => rfl⟩
  | .readRecord => ⟨_, _, _, _, readRecordOperands_refusal, fun _ _ => rfl⟩
  | .historyResize => ⟨_, _, _, _, resizeOperands_refusal, fun _ _ => rfl⟩
  | .groupClaim => ⟨_, _, _, _, groupOperand_refusal, fun _ _ => rfl⟩
  | .groupSet => ⟨_, _, _, _, groupSetOperands_refusal, fun _ _ => rfl⟩
  | .groupStart => ⟨_, _, _, _, groupStartOperands_refusal, fun _ _ => rfl⟩
  | .groupStop => ⟨_, _, _, _, groupOperand_refusal, fun _ _ => rfl⟩
  | .groupRelease => ⟨_, _, _, _, groupOperand_refusal, fun _ _ => rfl⟩
  | .groupInfo => ⟨_, _, _, _, groupOperand_refusal, fun _ _ => rfl⟩
  | .monCreate => ⟨_, _, _, _, monCreateOperands_refusal, fun _ _ => rfl⟩
  | .monAttach => ⟨_, _, _, _, monAttachOperands_refusal, fun _ _ => rfl⟩
  | .monFree => ⟨_, _, _, _, monOperand_refusal, fun _ _ => rfl⟩
  | .monInfo => ⟨_, _, _, _, monOperand_refusal, fun _ _ => rfl⟩
  | .eventFetch => ⟨_, _, _, _, fetchOperands_refusal, fun _ _ => rfl⟩

/-- The session test passes an OPEN, and every request in an OPEN session (R156). -/
theorem State.sessionRefuses_eq_false {s : State} {p : Port} {k : Kind}
    (h : (s.session p).isOpen = true ∨ k = .openSession) : s.sessionRefuses p k = false := by
  rcases h with hopen | rfl
  · exact State.sessionRefuses_open k hopen
  · simp [State.sessionRefuses]

/-- Settles O26: past the session test, what the reader of the kind refuses is the decoder's answer. -/
theorem decoderRefusesUndefinedPayloads : Obligations.DecoderRefusesUndefinedPayloads := by
  intro k p s f st hhead hsession hrefusal
  obtain ⟨α, operands, ready, take, hreader, hexec⟩ := k.served
  have hx : operands f.payload = .error st := refusalOf_eq_some ((hreader _).trans hrefusal)
  rw [hexec, State.serve_eq _ _ _ hhead, State.sessionRefuses_eq_false hsession, hx]
  rfl

end Sys2Proof.Machine
end

section
/-! PROOF. The end of a session (O30): the passes over monitors, accumulators and groups against the whole tables of
`State.afterEnd`. -/

namespace Sys2Proof.Machine

theorem mem_allPorts (p : Port) : p ∈ allPorts := by revert p; decide

theorem mem_allAccs (a : AccIx) : a ∈ allAccs := by revert a; decide

theorem mem_allMonitors (i : MonIx) : i ∈ allMonitors := by revert i; decide

theorem mem_allGroups (g : GroupIx) : g ∈ allGroups := by revert g; decide

/-! ### Passes that change one entry of a table at each turn -/

theorem withEntry_withEntry {α : Type} {n : Nat} (v : Vector α n) (i : Fin n) (x y : α) :
    withEntry (withEntry v i x) i y = withEntry v i y := Vector.set_set ..

/-- A pass over distinct indices whose turn at `i` writes the entry `i` from itself, as one table. -/
theorem foldl_entries {α : Type} {n : Nat} {f : Fin n → α → α} (l : List (Fin n)) (hl : l.Nodup) (v : Vector α n) :
    l.foldl (fun v i => withEntry v i (f i (entry v i))) v =
      Vector.ofFn fun i => if i ∈ l then f i (entry v i) else entry v i := by
  induction l generalizing v with
  | nil => exact entry_ext fun i => by simp
  | cons k l ih =>
    obtain ⟨hk, hl⟩ := List.nodup_cons.mp hl
    rw [List.foldl_cons, ih hl]
    refine entry_ext fun i => ?_
    by_cases hi : i = k
    · subst hi
      simp [hk]
    · simp [hi, entry_withEntry_ne _ _ hi]

/-- The same over all indices. -/
theorem foldl_entries_all {α : Type} {n : Nat} {f : α → α} {l : List (Fin n)} (hl : l.Nodup) (hall : ∀ i, i ∈ l)
    (v : Vector α n) : l.foldl (fun v i => withEntry v i (f (entry v i))) v = v.map f := by
  rw [foldl_entries (f := fun _ => f) l hl]
  exact entry_ext fun i => by simp [hall i]

/-! ### Monitors and groups (R95, R141) -/

/-- A monitor record after the end of the session of `p`: FREE when `p` owned it (R141). -/
def Monitor.unlessOf (p : Port) (m : Option Monitor) : Option Monitor :=
  m.bind fun m => if m.owner = p then none else some m

/-- A group record after the end of the session of `p`: without an owner when `p` owned it (R95). -/
def Group.disowned (p : Port) (r : Group) : Group := { r with owner := if r.owner = some p then none else r.owner }

/-- The state with these group records and every other item as it was. -/
def State.withGroups (s : State) (v : Vector Group 4) : State := { s with groups := v }

theorem State.setGroup_group_eq (s : State) (g : GroupIx) : s.setGroup g (s.group g) = s := by
  unfold State.setGroup State.group
  rw [withEntry_entry_self]

theorem State.freeMonitorOf_eq (p : Port) (s : State) (i : MonIx) :
    State.freeMonitorOf p s i = s.setMonitor i (Monitor.unlessOf p (s.monitor i)) := by
  have same := s.setMonitor_monitor_eq i
  unfold State.freeMonitorOf Monitor.unlessOf
  cases hm : s.monitor i with
  | none => rw [hm] at same; exact same.symm
  | some m =>
    rw [hm] at same
    by_cases hp : m.owner = p <;> simp [hp, same]

theorem State.disownGroup_eq (p : Port) (s : State) (g : GroupIx) :
    State.disownGroup p s g = s.setGroup g ((s.group g).disowned p) := by
  have same := s.setGroup_group_eq g
  unfold State.disownGroup Group.disowned
  by_cases hp : (s.group g).owner = some p
  · simp [hp]
  · simpa [hp] using same.symm

/-- The monitors of `p` freed, as one table (R141). -/
theorem State.foldl_freeMonitorOf (p : Port) (s : State) :
    allMonitors.foldl (State.freeMonitorOf p) s = s.withMonitors (s.monitors.map (Monitor.unlessOf p)) := by
  rw [← foldl_entries_all (by decide) mem_allMonitors]
  exact List.foldl_hom s.withMonitors fun v i => State.freeMonitorOf_eq p (s.withMonitors v) i

/-- The groups of `p` left without an owner, as one table (R95). -/
theorem State.foldl_disownGroup (p : Port) (s : State) :
    allGroups.foldl (State.disownGroup p) s = s.withGroups (s.groups.map (Group.disowned p)) := by
  rw [← foldl_entries_all (by decide) mem_allGroups]
  exact List.foldl_hom s.withGroups fun v g => State.disownGroup_eq p (s.withGroups v) g

/-! ### One accumulator record (R23 to R25, R39, R47) -/

/-- The state after the end of the session of `p` has been taken at the records of a list. -/
def State.endedAmong (s : State) (p : Port) (l : List AccIx) : State :=
  { s.posted fun q => l.flatMap fun a => ((s.acc a).map fun r => s.endNotices p a r q).getD [] with
    accs := Vector.ofFn fun a => if a ∈ l then (s.acc a).bind (·.afterEnd p) else s.acc a
    claimLists := Vector.ofFn fun a => if a ∈ l ∧ s.dropsAtEnd p a then [] else s.claims a
    pool := s.pool + (l.map fun a => if s.dropsAtEnd p a then s.depthOf a else 0).sum
    monitors := s.monitors.map fun m => m.map fun m =>
      { m with armed := m.armed && !(decide (m.acc ∈ l) && s.dropsAtEnd p m.acc) } }

/-- No monitor is owned by `p`. -/
def State.NoMonitorOf (s : State) (p : Port) : Prop := ∀ i m, s.monitor i = some m → m.owner ≠ p

theorem State.NoMonitorOf.detachNotices_eq {s : State} {p : Port} (h : s.NoMonitorOf p) (a : AccIx)
    (reason : DetachReason) (q : Port) :
    s.detachNotices a (fun _ => true) reason q = s.detachNotices a (· != p) reason q := by
  unfold State.detachNotices
  refine List.filterMap_congr fun i _ => ?_
  cases hm : s.monitor i with
  | none => rfl
  | some m => simp [h i m hm]

section
variable {s : State} {p : Port} {a : AccIx} {r : Accumulator}

theorem State.endedAmong_events (l : List AccIx) (q : Port) : (s.endedAmong p l).events q =
    if (s.session q).isOpen then
      (l.flatMap fun a => ((s.acc a).map fun r => s.endNotices p a r q).getD []).foldl enqueue (s.events q)
    else s.events q := by
  simp only [State.events, State.endedAmong, State.posted, entry_ofFn]

@[simp] theorem State.endedAmong_acc (l : List AccIx) (k : AccIx) :
    (s.endedAmong p l).acc k = if k ∈ l then (s.acc k).bind (·.afterEnd p) else s.acc k := entry_ofFn _ _

@[simp] theorem State.endedAmong_claims (l : List AccIx) (k : AccIx) :
    (s.endedAmong p l).claims k = if k ∈ l ∧ s.dropsAtEnd p k then [] else s.claims k := entry_ofFn _ _

@[simp] theorem State.endedAmong_monitor (l : List AccIx) (i : MonIx) :
    (s.endedAmong p l).monitor i = (s.monitor i).map fun m =>
      { m with armed := m.armed && !(decide (m.acc ∈ l) && s.dropsAtEnd p m.acc) } := entry_map _ _ _

@[simp] theorem State.endedAmong_tick (l : List AccIx) : (s.endedAmong p l).tick = s.tick := by
  simp only [State.endedAmong, State.posted]

@[simp] theorem State.endedAmong_session (l : List AccIx) (q : Port) : (s.endedAmong p l).session q = s.session q := by
  simp only [State.endedAmong, State.posted, State.session]

@[simp] theorem State.endedAmong_pool (l : List AccIx) : (s.endedAmong p l).pool =
    s.pool + (l.map fun a => if s.dropsAtEnd p a then s.depthOf a else 0).sum := rfl

theorem State.dropsAtEnd_of_acc (ha : s.acc a = some r) :
    s.dropsAtEnd p a = (r.owner == some p && r.policies.orphanPolicy == .drop) := by
  simp [State.dropsAtEnd, ha]

theorem State.depthOf_of_acc (ha : s.acc a = some r) : s.depthOf a = r.depth := by simp [State.depthOf, ha]

/-- A FREE record has no part in the end of a session. -/
theorem State.endAtAcc_of_free (ha : s.acc a = none) : State.endAtAcc p s a = s := by
  simp [State.endAtAcc, State.removeStanding, ha]

/-- A record that `p` owns under DROP is released (R25). -/
theorem State.endAtAcc_of_drop (ha : s.acc a = some r) (howner : r.owner = some p)
    (hpolicy : r.policies.orphanPolicy = .drop) : State.endAtAcc p s a = s.release a r p .ownerEnded := by
  have hgone : (s.release a r p .ownerEnded).acc a = none := by
    rw [State.release_eq]
    simp
  simp [State.endAtAcc, State.removeStanding, ha, Accumulator.ownedBy, howner, State.disposeOwned, hpolicy, hgone]

theorem Accumulator.withoutPort_orphaned (r : Accumulator) (p : Port) :
    Accumulator.withoutPort { r with owner := none, offer := none } p =
      { r with owner := none, offer := none, contributors := withEntry r.contributors p false,
               readers := withEntry r.readers p none } := rfl

theorem State.setAcc_setAcc (s : State) (a : AccIx) (x y : Option Accumulator) :
    (s.setAcc a x).setAcc a y = s.setAcc a y := by
  unfold State.setAcc
  rw [withEntry_withEntry]

/-- Orphaning, as a changed record and posts (R24): the offer withdrawn, then ACC_ORPHANED. -/
theorem State.disposeOwned_of_keep (s : State) (a : AccIx) (p : Port) (hpolicy : r.policies.orphanPolicy = .keep) :
    s.disposeOwned a r p = (s.setAcc a (some { r with owner := none, offer := none })).posted fun q =>
      toEach (fun q => r.offer.any (·.port == q)) ⟨.offerWithdrawn a, s.tick⟩ q ++
        toEach (fun q => decide (q ≠ p) && (r.isContributor q || (r.reader q).isSome)) ⟨.accOrphaned a, s.tick⟩ q := by
  rw [← State.posted_posted, ← State.postEach_sharers]
  unfold State.disposeOwned
  rw [hpolicy]
  cases r.offer with
  | none => rw [State.posted_offered_none]; rfl
  | some o => rw [← State.setAcc_tick, State.posted_offered_some]; simp only [State.post_tick]

/-- A record that `p` owns under KEEP is orphaned: its offer withdrawn, its sharers told (R24). -/
theorem State.endAtAcc_of_keep (ha : s.acc a = some r) (howner : r.owner = some p)
    (hpolicy : r.policies.orphanPolicy = .keep) : State.endAtAcc p s a =
      (s.posted fun q => toEach (fun q => r.offer.any (·.port == q)) ⟨.offerWithdrawn a, s.tick⟩ q ++
        toEach (fun q => decide (q ≠ p) && (r.isContributor q || (r.reader q).isSome)) ⟨.accOrphaned a, s.tick⟩ q).setAcc a
        (r.afterEnd p) := by
  have hafter : r.afterEnd p =
      some (Accumulator.withoutPort { r with owner := none, offer := none } p) := by
    simp [Accumulator.afterEnd, howner, hpolicy, Accumulator.withoutPort_orphaned]
  simp only [State.endAtAcc, ha, Accumulator.ownedBy, howner, beq_self_eq_true, if_true,
    s.disposeOwned_of_keep a p hpolicy, State.removeStanding, State.posted_acc, State.setAcc_acc_self, hafter]
  exact State.setAcc_setAcc (s.posted _) a _ _

/-- A record that `p` does not own loses the standing of `p`, and an offer to `p` is ended (R39, R47). -/
theorem State.endAtAcc_of_other (ha : s.acc a = some r) (howner : r.owner ≠ some p) : State.endAtAcc p s a =
    (s.posted (toEach (fun q => r.owner == some q && r.offer.any (·.port == p)) ⟨.offerEnded a p, s.tick⟩)).setAcc a
      (r.afterEnd p) := by
  have hafter : r.afterEnd p = some (r.withoutPort p) := by
    simp [Accumulator.afterEnd, howner, Accumulator.withoutPort, Accumulator.setContributor, Accumulator.setReader]
  have howned : r.ownedBy p = false := beq_eq_false_iff_ne.mpr howner
  simp only [State.endAtAcc, ha, howned, Bool.false_eq_true, if_false, State.removeStanding, hafter]
  have hnothing : ∀ e : EventRecord, toEach (fun _ => false) e = fun _ => [] := fun _ => rfl
  cases ho : r.owner with
  | none => simp [hnothing]
  | some o =>
    by_cases hoffer : r.offer.any (·.port == p) = true
    · simp only [hoffer, if_true, State.post_eq_posted, Bool.and_true, Option.some_beq_some, Bool.beq_comm (a := o)]
      rfl
    · simp [hoffer, hnothing]

/-- The state after the end of the session of `p` has been taken at one record, as posts and tables. -/
theorem State.endedAmong_singleton (s : State) (p : Port) (a : AccIx) : s.endedAmong p [a] =
    (((((s.posted fun q => ((s.acc a).map fun r => s.endNotices p a r q).getD []).withMonitors
      (s.monitors.map fun m => m.map fun m => { m with armed := m.armed && !(m.acc == a && s.dropsAtEnd p a) })).setPool
      (s.pool + if s.dropsAtEnd p a then s.depthOf a else 0)).setAcc a ((s.acc a).bind (·.afterEnd p))).setClaims a
      (if s.dropsAtEnd p a then [] else s.claims a)) := by
  have haccs : (Vector.ofFn fun k => if k ∈ [a] then (s.acc k).bind (·.afterEnd p) else s.acc k) =
      withEntry s.accs a ((s.acc a).bind (·.afterEnd p)) := entry_ext fun k => by
    by_cases hk : k = a <;> simp [hk, entry_withEntry, State.acc]
  have hclaims : (Vector.ofFn fun k => if k ∈ [a] ∧ s.dropsAtEnd p k then [] else s.claims k) =
      withEntry s.claimLists a (if s.dropsAtEnd p a then [] else s.claims a) := entry_ext fun k => by
    by_cases hk : k = a <;> simp [hk, entry_withEntry, State.claims]
  have hmonitor : ∀ m : Monitor, (decide (m.acc ∈ [a]) && s.dropsAtEnd p m.acc) = (m.acc == a && s.dropsAtEnd p a) :=
    fun m => by by_cases hm : m.acc = a <;> simp [hm]
  unfold State.endedAmong
  simp only [haccs, hclaims, hmonitor, List.flatMap_singleton, List.map_singleton, List.sum_singleton]
  rfl

/-- A record that stays: posts and the record alone. -/
theorem State.endedAmong_of_stays (h : s.dropsAtEnd p a = false) : s.endedAmong p [a] =
    (s.posted fun q => ((s.acc a).map fun r => s.endNotices p a r q).getD []).setAcc a ((s.acc a).bind (·.afterEnd p)) := by
  have hmonitors : (s.monitors.map fun m => m.map fun m =>
      { m with armed := m.armed && !(m.acc == a && s.dropsAtEnd p a) }) = s.monitors := entry_ext fun i => by simp [h]
  have hclaims : withEntry s.claimLists a (s.claims a) = s.claimLists := withEntry_entry_self _ _
  rw [State.endedAmong_singleton, hmonitors, h]
  unfold State.setClaims
  simp only [Bool.false_eq_true, if_false]
  change { (((s.posted _).withMonitors s.monitors).setPool s.pool).setAcc a _ with
    claimLists := withEntry s.claimLists a (s.claims a) } = _
  rw [hclaims]
  rfl

/-- A record that is dropped: as a release. -/
theorem State.endedAmong_of_dropped (hp : s.NoMonitorOf p) (ha : s.acc a = some r) (howner : r.owner = some p)
    (hpolicy : r.policies.orphanPolicy = .drop) : s.endedAmong p [a] = s.release a r p .ownerEnded := by
  have hdrop : s.dropsAtEnd p a = true := by simp [State.dropsAtEnd_of_acc ha, howner, hpolicy]
  have hnotices : ∀ q, s.endNotices p a r q =
      toEach (fun q => r.offer.any (·.port == q)) ⟨.offerWithdrawn a, s.tick⟩ q ++
        toEach (fun q => decide (q ≠ p) && (r.isContributor q || (r.reader q).isSome)) ⟨.accGone a .ownerEnded, s.tick⟩ q ++
        s.detachNotices a (fun _ => true) .released q := fun q => by
    simp [State.endNotices, howner, hpolicy, hp.detachNotices_eq]
  have hrecord : r.afterEnd p = none := if_pos ⟨howner, hpolicy⟩
  rw [State.endedAmong_singleton, State.release_eq]
  simp only [ha, Option.map_some, Option.getD_some, Option.bind_some, hnotices, hdrop, hrecord, if_true,
    State.depthOf_of_acc ha, State.detachedMonitors, Bool.and_true]

/-- One turn of the end of a session, in a state where `p` owns no monitor any more. -/
theorem State.endAtAcc_eq (hp : s.NoMonitorOf p) (a : AccIx) : State.endAtAcc p s a = s.endedAmong p [a] := by
  cases ha : s.acc a with
  | none =>
    rw [State.endAtAcc_of_free ha, State.endedAmong_of_stays (by simp [State.dropsAtEnd, ha]), ha]
    simp only [Option.map_none, Option.getD_none, State.posted_nothing, Option.bind_none, State.setAcc_of_acc ha]
  | some r =>
    by_cases howner : r.owner = some p
    · cases hpolicy : r.policies.orphanPolicy with
      | drop => rw [State.endAtAcc_of_drop ha howner hpolicy, State.endedAmong_of_dropped hp ha howner hpolicy]
      | keep =>
        have hstays : s.dropsAtEnd p a = false := by simp [State.dropsAtEnd_of_acc ha, hpolicy]
        rw [State.endAtAcc_of_keep ha howner hpolicy, State.endedAmong_of_stays hstays, ha]
        simp [State.endNotices, howner, hpolicy]
    · have hstays : s.dropsAtEnd p a = false := by simp [State.dropsAtEnd_of_acc ha, howner]
      rw [State.endAtAcc_of_other ha howner, State.endedAmong_of_stays hstays, ha]
      simp [State.endNotices, howner]

end

/-! ### All accumulator records -/

/-- Records that the end of a session has not reached stand in it as they stood before. -/
theorem State.endedAmong_beside (s : State) (p : Port) {a k : AccIx} (h : k ≠ a) :
    (s.endedAmong p [a]).acc k = s.acc k ∧ (s.endedAmong p [a]).claims k = s.claims k := by
  constructor <;> simp [h]

theorem State.endedAmong_detachNotices (s : State) (p : Port) {a k : AccIx} (h : k ≠ a) (who : Port → Bool)
    (reason : DetachReason) (q : Port) :
    (s.endedAmong p [a]).detachNotices k who reason q = s.detachNotices k who reason q := by
  unfold State.detachNotices
  refine List.filterMap_congr fun i _ => ?_
  rw [State.endedAmong_monitor]
  cases s.monitor i with
  | none => simp only [Option.map_none, Option.bind_none]
  | some m =>
    by_cases hk : m.acc = k
    · have hm : (decide (m.acc ∈ [a]) && s.dropsAtEnd p m.acc) = false := by simp [hk, h]
      simp only [Option.map_some, Option.bind_some, hm, Bool.not_false, Bool.and_true, State.endedAmong_tick]
    · simp [hk]

theorem State.endedAmong_dropsAtEnd (s : State) (p : Port) {a k : AccIx} (h : k ≠ a) :
    (s.endedAmong p [a]).dropsAtEnd p k = s.dropsAtEnd p k := by
  unfold State.dropsAtEnd
  rw [(s.endedAmong_beside p h).1]

theorem State.endedAmong_depthOf (s : State) (p : Port) {a k : AccIx} (h : k ≠ a) :
    (s.endedAmong p [a]).depthOf k = s.depthOf k := by
  unfold State.depthOf
  rw [(s.endedAmong_beside p h).1]

theorem State.endedAmong_endNotices (s : State) (p : Port) {a k : AccIx} (h : k ≠ a) (r : Accumulator) (q : Port) :
    (s.endedAmong p [a]).endNotices p k r q = s.endNotices p k r q := by
  unfold State.endNotices
  simp only [State.endedAmong_detachNotices s p h, State.endedAmong_tick]

/-- Two states that differ at most in accumulators, claims, pool, monitors and event queues. -/
def State.SameButTables (s t : State) : Prop :=
  t = { s with accs := t.accs, claimLists := t.claimLists, pool := t.pool, monitors := t.monitors,
               eventQueues := t.eventQueues }

theorem State.SameButTables.trans {s t u : State} (h : s.SameButTables t) (h' : t.SameButTables u) :
    s.SameButTables u := by
  unfold State.SameButTables at *
  rw [h', h]

/-- States that differ from one state in these tables alone are the same when the tables are. -/
theorem State.SameButTables.eq {s t u : State} (ht : s.SameButTables t) (hu : s.SameButTables u)
    (hacc : ∀ a, t.acc a = u.acc a) (hclaims : ∀ a, t.claims a = u.claims a) (hpool : t.pool = u.pool)
    (hmonitor : ∀ i, t.monitor i = u.monitor i) (hevents : ∀ q, t.events q = u.events q) : t = u := by
  have h1 : t.accs = u.accs := entry_ext hacc
  have h2 : t.claimLists = u.claimLists := entry_ext hclaims
  have h3 : t.monitors = u.monitors := entry_ext hmonitor
  have h4 : t.eventQueues = u.eventQueues := entry_ext hevents
  rw [ht, hu, h1, h2, h3, h4, hpool]

theorem State.endedAmong_sameButTables (s : State) (p : Port) (l : List AccIx) : s.SameButTables (s.endedAmong p l) := by
  simp only [State.SameButTables, State.endedAmong, State.posted]

theorem State.endedAmong_nil (s : State) (p : Port) : s.endedAmong p [] = s := by
  refine (s.endedAmong_sameButTables p []).eq rfl ?_ ?_ ?_ ?_ ?_ <;> intros <;> simp [State.endedAmong_events]

/-- The end taken at one record and then at others is the end taken at all of them. -/
theorem State.endedAmong_cons (s : State) (p : Port) {a : AccIx} {l : List AccIx} (h : a ∉ l) :
    (s.endedAmong p [a]).endedAmong p l = s.endedAmong p (a :: l) := by
  have hne : ∀ k ∈ l, k ≠ a := fun k hk e => h (e ▸ hk)
  refine ((s.endedAmong_sameButTables p [a]).trans (State.endedAmong_sameButTables _ p l)).eq
    (s.endedAmong_sameButTables p (a :: l)) (fun k => ?acc) (fun k => ?claims) ?pool (fun i => ?monitor) fun q => ?events
  case acc =>
    by_cases hk : k = a
    · simp [hk, h]
    · simp [hk]
  case claims =>
    by_cases hk : k = a
    · simp [hk, h]
    · simp [hk, s.endedAmong_dropsAtEnd p hk]
  case pool =>
    have hsum : (l.map fun k => if (s.endedAmong p [a]).dropsAtEnd p k then (s.endedAmong p [a]).depthOf k else 0) =
        l.map fun k => if s.dropsAtEnd p k then s.depthOf k else 0 :=
      List.map_congr_left fun k hk => by
        rw [s.endedAmong_dropsAtEnd p (hne k hk), s.endedAmong_depthOf p (hne k hk)]
    rw [State.endedAmong_pool, hsum]
    simp [Nat.add_assoc]
  case monitor =>
    have harmed : ∀ m : Monitor, (m.armed && !(decide (m.acc ∈ [a]) && s.dropsAtEnd p m.acc) &&
        !(decide (m.acc ∈ l) && (s.endedAmong p [a]).dropsAtEnd p m.acc)) =
        (m.armed && !(decide (m.acc ∈ a :: l) && s.dropsAtEnd p m.acc)) := fun m => by
      by_cases hm : m.acc = a
      · simp [hm, h]
      · simp [hm, s.endedAmong_dropsAtEnd p hm]
    simp only [State.endedAmong_monitor, Option.map_map]
    congr 1
    funext m
    simp only [Function.comp_apply, harmed]
  case events =>
    have hnotices : ∀ q, (l.flatMap fun k => (((s.endedAmong p [a]).acc k).map fun r =>
        (s.endedAmong p [a]).endNotices p k r q).getD []) =
        l.flatMap fun k => ((s.acc k).map fun r => s.endNotices p k r q).getD [] := fun q =>
      List.flatMap_congr fun k hk => by
        simp only [(s.endedAmong_beside p (hne k hk)).1, s.endedAmong_endNotices p (hne k hk)]
    simp only [State.endedAmong_events, State.endedAmong_session, hnotices]
    split <;> simp

theorem State.NoMonitorOf.endedAmong {s : State} {p : Port} (h : s.NoMonitorOf p) (l : List AccIx) :
    (s.endedAmong p l).NoMonitorOf p := by
  intro i m hm
  rw [State.endedAmong_monitor] at hm
  obtain ⟨m', hm', rfl⟩ := Option.map_eq_some_iff.mp hm
  exact h i m' hm'

theorem State.foldl_endAtAcc {s : State} {p : Port} {l : List AccIx} (hl : l.Nodup) (hp : s.NoMonitorOf p) :
    l.foldl (State.endAtAcc p) s = s.endedAmong p l := by
  induction l generalizing s with
  | nil => exact (s.endedAmong_nil p).symm
  | cons a l ih =>
    obtain ⟨ha, hl⟩ := List.nodup_cons.mp hl
    rw [List.foldl_cons, State.endAtAcc_eq hp, ih hl (hp.endedAmong _), State.endedAmong_cons s p ha]

/-! ### The claim as a whole (R164) -/

/-- The state after the first part of the claim: the session record, the decoder and the monitors of `p`. -/
def State.endBegun (s : State) (p : Port) (cause : EndCause) (response : Option Response) : State :=
  ((s.setSession p ((s.session p).ended cause response)).setPort p { s.port p with holding := false }).withMonitors
    (s.monitors.map (Monitor.unlessOf p))

section
variable (s : State) (p : Port) (cause : EndCause) (response : Option Response)

theorem State.endSession_eq_passes : s.endSession p cause response =
    (allAccs.foldl (State.endAtAcc p) (s.endBegun p cause response)).withGroups
      ((allAccs.foldl (State.endAtAcc p) (s.endBegun p cause response)).groups.map (Group.disowned p)) := by
  unfold State.endSession
  rw [State.foldl_disownGroup, State.foldl_freeMonitorOf]
  rfl

theorem State.endBegun_monitor (i : MonIx) :
    (s.endBegun p cause response).monitor i = Monitor.unlessOf p (s.monitor i) := entry_map _ _ _

theorem State.endBegun_noMonitorOf : (s.endBegun p cause response).NoMonitorOf p := by
  intro i m hm
  rw [State.endBegun_monitor] at hm
  obtain ⟨m', -, hkept⟩ := Option.bind_eq_some_iff.mp hm
  split at hkept
  · cases hkept
  · next hother => exact Option.some.inj hkept ▸ hother

theorem State.endBegun_detachNotices (a : AccIx) (reason : DetachReason) (q : Port) :
    (s.endBegun p cause response).detachNotices a (· != p) reason q = s.detachNotices a (· != p) reason q := by
  unfold State.detachNotices
  refine List.filterMap_congr fun i _ => ?_
  rw [State.endBegun_monitor]
  cases hm : s.monitor i with
  | none => rfl
  | some m =>
    by_cases hp : m.owner = p
    · simp [Monitor.unlessOf, hp]
    · simp only [Monitor.unlessOf, Option.bind_some, if_neg hp]
      rfl

theorem State.endBegun_endNotices (a : AccIx) (r : Accumulator) (q : Port) :
    (s.endBegun p cause response).endNotices p a r q = s.endNotices p a r q := by
  unfold State.endNotices
  simp only [State.endBegun_detachNotices]
  rfl

/-- The monitors after the claim: those of `p` freed, those on a dropped record detached (R136, R141). -/
theorem Monitor.unlessOf_detached (dropped : AccIx → Bool) (m : Option Monitor) :
    ((Monitor.unlessOf p m).map fun m => { m with armed := m.armed && !(decide (m.acc ∈ allAccs) && dropped m.acc) }) =
      m.bind fun m => if m.owner = p then none else some { m with armed := m.armed && !dropped m.acc } := by
  cases m with
  | none => rfl
  | some m => by_cases hp : m.owner = p <;> simp [Monitor.unlessOf, hp, mem_allAccs]

/-- The claim that ends a session, as posts and tables. -/
theorem State.endSession_eq_afterEnd : s.endSession p cause response = s.afterEnd p cause response := by
  have hacc : ∀ a, (s.endBegun p cause response).acc a = s.acc a := fun _ => rfl
  have hclaims : ∀ a, (s.endBegun p cause response).claims a = s.claims a := fun _ => rfl
  have hdrops : ∀ a, (s.endBegun p cause response).dropsAtEnd p a = s.dropsAtEnd p a := fun _ => rfl
  have hdepth : ∀ a, (s.endBegun p cause response).depthOf a = s.depthOf a := fun _ => rfl
  rw [State.endSession_eq_passes, State.foldl_endAtAcc (by decide) (s.endBegun_noMonitorOf p cause response)]
  have hmonitors : ((s.endBegun p cause response).monitors.map fun m => m.map fun m =>
        { m with armed := m.armed && !(decide (m.acc ∈ allAccs) && s.dropsAtEnd p m.acc) }) =
      s.monitors.map fun m => m.bind fun m =>
        if m.owner = p then none else some { m with armed := m.armed && !s.dropsAtEnd p m.acc } := entry_ext fun i => by
    rw [entry_map, entry_map]
    exact (congrArg _ (entry_map _ _ _)).trans (Monitor.unlessOf_detached p (s.dropsAtEnd p) _)
  simp only [State.endedAmong, mem_allAccs, if_true, true_and, State.endBegun_endNotices, hacc, hclaims, hdrops, hdepth]
  simp only [mem_allAccs, decide_true, Bool.true_and] at hmonitors ⊢
  rw [hmonitors]
  rfl

end

/-- Settles O30: the three passes of the claim, each as one table. -/
theorem sessionEndIsOneClaim : Obligations.SessionEndIsOneClaim := State.endSession_eq_afterEnd

end Sys2Proof.Machine
end

section
/-! PROOF. What a request that its block takes can do, said once for all kinds of request: every block's answer is one of
the effects of `State.Effect`. The invariants (O5 to O9) and the frame of every command (O2) are derived from it. -/

namespace Sys2Proof.Machine

/-! ### Effects -/

/-- A record's standing in a state: the clauses of `State.StandingSound` for one record (R1, R27, R33, R47). -/
def Accumulator.StandsIn (r : Accumulator) (s : State) : Prop :=
  (∀ p, r.owner = some p → (s.session p).isOpen = true ∧ r.isContributor p = false) ∧
  (∀ p, r.isContributor p = true → (s.session p).isOpen = true) ∧
  (∀ p, (r.reader p).isSome = true → (s.session p).isOpen = true) ∧
  (∀ o, r.offer = some o → (s.session o.port).isOpen = true ∧ ∃ p, r.owner = some p ∧ p ≠ o.port)

/-- A group's period and countdown are within their bounds, and a boundary is due only at countdown 1 (R78, R86). -/
def Group.Fits (r : Group) : Prop :=
  1 ≤ r.period ∧ r.period ≤ 65535 ∧ (∀ c, r.countdown = some c → 1 ≤ c ∧ c ≤ r.period) ∧
  (r.boundaryDue = true → r.countdown = some 1)

/-- None of the events is the EVENTS_LOST marker, which only an event queue itself forms (R147). -/
def Unmarked (es : Port → List EventRecord) : Prop := ∀ q, ∀ e ∈ es q, e.isMarker = false

/-- The monitor table `v` follows a change of the record of `a` from `r` to `r'`: owners, accumulators and configurations
stand, and no monitor is ARMED there that was not, or whose owner has lost its access (R46, R132). -/
def State.MonitorsFollow (s : State) (a : AccIx) (r r' : Accumulator) (v : Vector (Option Monitor) 16) : Prop :=
  ∀ i m', entry v i = some m' → ∃ m, s.monitor i = some m ∧ m'.owner = m.owner ∧ m'.acc = m.acc ∧
    m'.config = m.config ∧
    (m'.armed = true → m.armed = true ∧ (m.acc = a → r.access m.owner = true → r'.access m.owner = true))

/-- What a claim taken for port `p` can do to the state. Each effect carries what the block has checked; where an invariant
says more of the state before, the effect says what follows of the state after. -/
inductive State.Effect (p : Port) (s : State) : State → Prop
  | nothing : Effect p s s
  | changed {a : AccIx} {r r' : Accumulator} {n : Nat} {es : Port → List EventRecord} {v : Vector (Option Monitor) 16}
      (ha : s.acc a = some r) (hpool : n + r'.depth = s.pool + r.depth) (hdepth : r'.depth = r.depth ∨ r'.depth ≤ 32)
      (hhistory : r.HistoryFits → r'.HistoryFits)
      (hstanding : (s.session p).isOpen = true → r.StandsIn s → r'.StandsIn s)
      (hes : Unmarked es) (hv : s.MonitorsFollow a r r' v) :
      Effect p s ((((s.setPool n).setAcc a (some r')).posted es).withMonitors v)
  | created {a : AccIx} {policies : Policies} {depth : Nat} (ha : s.acc a = none) (hpool : depth ≤ s.pool)
      (hdepth : depth ≤ 32) :
      Effect p s ((s.setPool (s.pool - depth)).setAcc a (some (.created p policies depth)))
  | released {a : AccIx} {r : Accumulator} (ha : s.acc a = some r) : Effect p s (s.release a r p .released)
  | armed {i : MonIx} {m : Monitor} {r : Accumulator} (howner : m.owner = p)
      (hbounds : s.MonitorsSound → boundsDefined m.config.low m.config.high m.config.hysteresis = true)
      (ha : s.acc m.acc = some r) (haccess : r.access p = true) : Effect p s (s.setMonitor i (some m))
  | freed {i : MonIx} : Effect p s (s.setMonitor i none)
  | scheduled {g : GroupIx} {r : Group} (hready : s.clockReady = true)
      (howner : r.owner = none ∨ r.owner = some p ∨ r.owner = (s.group g).owner)
      (hdue : r.boundaryDue = (s.group g).boundaryDue)
      (hfits : (s.group g).boundaryDue = false → (s.group g).Fits → r.Fits) : Effect p s (s.setGroup g r)
  | fetched {n : Nat} : Effect p s (s.setEvents p ((s.events p).drop n))
  | queued {j : Job} (hroom : (s.jobs p).length < 4) (hport : j.port = p) (hmark : j.mark = .none) :
      Effect p s (s.setJobs p (s.jobs p ++ [j]))
  | dequeued {l : List Job} (hsub : l.Sublist (s.jobs p)) : Effect p s (s.setJobs p l)
  | marked {j : Option Job} : Effect p s (s.setRunning j)
  | granted {t : State} (ht : Effect p s t) : Effect p s t.makeGrant
  | ended {cause : EndCause} {response : Option Response} : Effect p s (s.endSession p cause response)
  | responded {t : State} {tag : Byte} {st : Status} {payload : List Byte} (ht : Effect p s t) :
      Effect p s (t.responded p tag st payload)

theorem State.Effect.reply {p : Port} {s t : State} {tag : Byte} {r : Reply} (h : s.Effect p t) :
    s.Effect p (t.reply p tag r) := by
  rw [State.reply_eq]
  exact h.responded

/-! ### Events that are no marker -/

theorem Unmarked.append {es es' : Port → List EventRecord} (h : Unmarked es) (h' : Unmarked es') :
    Unmarked fun q => es q ++ es' q := by
  intro q e he
  exact (List.mem_append.mp he).elim (h q e) (h' q e)

theorem unmarked_nothing : Unmarked fun _ => [] := fun _ _ he => absurd he List.not_mem_nil

theorem unmarked_toEach (who : Port → Bool) {e : EventRecord} (h : e.isMarker = false) : Unmarked (toEach who e) := by
  intro q e' he
  unfold toEach at he
  split at he
  · exact List.mem_singleton.mp he ▸ h
  · exact absurd he List.not_mem_nil

theorem State.detachNotices_unmarked (s : State) (a : AccIx) (who : Port → Bool) (reason : DetachReason) :
    Unmarked (s.detachNotices a who reason) := by
  intro q e he
  obtain ⟨i, -, hi⟩ := List.mem_filterMap.mp he
  obtain ⟨m, -, hm⟩ := Option.bind_eq_some_iff.mp hi
  split at hm
  · exact Option.some.inj hm ▸ rfl
  · cases hm

theorem State.thresholdNotices_unmarked (s : State) (a : AccIx) (r : Option Accumulator) (live : Wide)
    (closed : Option Wide) : Unmarked (s.thresholdNotices a r live closed) := by
  intro q e he
  obtain ⟨i, -, hi⟩ := List.mem_filterMap.mp he
  obtain ⟨m, -, hm⟩ := Option.bind_eq_some_iff.mp hi
  obtain ⟨v, -, hv⟩ := Option.bind_eq_some_iff.mp hm
  dsimp only at hv
  split at hv
  · exact Option.some.inj hv ▸ rfl
  · cases hv

/-! ### Monitor tables that follow a change of a record -/

section
variable {s : State} {a : AccIx} {r r' : Accumulator}

/-- A monitor table that stands follows a change that takes access from nobody. -/
theorem State.monitorsFollow_self (h : ∀ q, r.access q = true → r'.access q = true) :
    s.MonitorsFollow a r r' s.monitors :=
  fun _ m hm => ⟨m, hm, rfl, rfl, rfl, fun harmed => ⟨harmed, fun _ => h m.owner⟩⟩

/-- A detachment of `q` follows a change that takes access from `q` alone (R46). -/
theorem State.monitorsFollow_detached {q : Port} (h : ∀ x, x ≠ q → r.access x = true → r'.access x = true) :
    s.MonitorsFollow a r r' (s.detachedMonitors a (· == q)) := by
  intro i m' hm'
  obtain ⟨m, hm, rfl⟩ := Option.map_eq_some_iff.mp ((entry_map _ _ _).symm.trans hm')
  refine ⟨m, hm, rfl, rfl, rfl, fun harmed => ?_⟩
  obtain ⟨harmed, hmiss⟩ := Bool.and_eq_true_iff.mp harmed
  refine ⟨harmed, fun ha => h m.owner fun hq => ?_⟩
  simp [ha, hq] at hmiss

/-- An evaluation follows a change that takes access from nobody: it changes regions alone (R132). -/
theorem State.monitorsFollow_judged {t : State} (ht : t.monitors = s.monitors) (live : Wide) (closed : Option Wide)
    (h : ∀ q, r.access q = true → r'.access q = true) :
    s.MonitorsFollow a r r' (t.judgedMonitors a live closed) := by
  intro i m' hm'
  unfold State.judgedMonitors at hm'
  rw [ht] at hm'
  obtain ⟨m, hm, rfl⟩ := Option.map_eq_some_iff.mp ((entry_map _ _ _).symm.trans hm')
  refine ⟨m, hm, ?_⟩
  cases m.judges a live closed <;> exact ⟨rfl, rfl, rfl, fun harmed => ⟨harmed, fun _ => h m.owner⟩⟩

end

end Sys2Proof.Machine
end

section
/-! PROOF. Every request's block has one of the effects of `State.Effect`: what the operand readers give, what the blocks
do to accumulator records, monitors, groups and jobs, and the decoder's serving of all kinds. -/

namespace Sys2Proof.Machine

/-! ### What the operand readers give (R190, R191) -/

theorem checkFields_eq_ok {α : Type} {o : Option α} {x : α} (h : checkFields o = .ok x) : o = some x := by
  cases o with
  | none => cases h
  | some y => exact congrArg some (Except.ok.inj h)

theorem boundedField_eq_some {lo hi n m : Nat} (h : boundedField lo hi n = some m) : lo ≤ m ∧ m ≤ hi := by
  unfold boundedField at h
  split at h
  · next hn => exact Option.some.inj h ▸ hn
  · cases h

theorem createOperands_depth {l : List Byte} {x : CreateArgs} (h : createOperands l = .ok x) : x.depth ≤ 32 := by
  unfold createOperands at h
  split at h
  · have hx := checkFields_eq_ok h
    split at hx
    · next hd => exact Option.some.inj hx ▸ (boundedField_eq_some hd).2
    · cases hx
  · cases h

theorem resizeOperands_depth {l : List Byte} {x : AccIx × Nat} (h : resizeOperands l = .ok x) : x.2 ≤ 32 := by
  unfold resizeOperands at h
  split at h
  · have hx := checkFields_eq_ok h
    split at hx
    · next hd => exact Option.some.inj hx ▸ (boundedField_eq_some hd).2
    · cases hx
  · cases h

theorem openOperands_bounds {l : List Byte} {n : Nat} (h : openOperands l = .ok n) : 16 ≤ n ∧ n ≤ 8192 := by
  unfold openOperands at h
  split at h
  · exact boundedField_eq_some (checkFields_eq_ok h)
  · cases h

theorem groupSetOperands_period {l : List Byte} {x : GroupIx × Nat} (h : groupSetOperands l = .ok x) :
    1 ≤ x.2 ∧ x.2 ≤ 65535 := by
  unfold groupSetOperands at h
  split at h
  · have hx := checkFields_eq_ok h
    split at hx
    · next hn => exact Option.some.inj hx ▸ boundedField_eq_some hn
    · cases hx
  · cases h

theorem groupStartOperands_phase {l : List Byte} {x : GroupIx × Option Nat} {n : Nat} (h : groupStartOperands l = .ok x)
    (hn : x.2 = some n) : 1 ≤ n := by
  unfold groupStartOperands at h
  split at h
  · obtain ⟨g, -, rfl⟩ := Option.map_eq_some_iff.mp (checkFields_eq_ok h)
    cases hn
  · have hx := checkFields_eq_ok h
    split at hx
    · next hb =>
      obtain rfl := Option.some.inj hx
      exact Option.some.inj hn ▸ (boundedField_eq_some hb).1
    · cases hx
  · cases h

theorem monCreateOperands_bounds {l : List Byte} {x : AccIx × MonitorConfig} (h : monCreateOperands l = .ok x) :
    boundsDefined x.2.low x.2.high x.2.hysteresis = true := by
  unfold monCreateOperands at h
  split at h
  · split at h
    · cases h
    · have hx := checkFields_eq_ok h
      split at hx
      · dsimp only at hx
        split at hx
        · next hb => exact Option.some.inj hx ▸ hb.2
        · cases hx
      · cases hx
  · cases h

/-! ### Histories (R100, R101, R103) -/

section
variable {r : Accumulator}

theorem Accumulator.HistoryFits.setReader (h : r.HistoryFits) (p : Port) {e : Option ReaderEntry}
    (he : ∀ e', e = some e' → 1 ≤ e'.cursor.toNat ∧ e'.cursor.toNat ≤ r.openSequence.toNat) :
    (r.setReader p e).HistoryFits := by
  obtain ⟨hlen, hopen, hring, hcursors⟩ := h
  refine ⟨hlen, hopen, hring, fun q e' hq => ?_⟩
  rw [Accumulator.setReader_reader] at hq
  split at hq
  · exact he e' hq
  · exact hcursors q e' hq

theorem Accumulator.HistoryFits.floor_bounds (h : r.HistoryFits) :
    1 ≤ r.floor.toNat ∧ r.floor.toNat ≤ r.openSequence.toNat := by
  rw [Accumulator.floor_toNat h]
  obtain ⟨-, hopen, -, -⟩ := h
  omega

/-- The cursor that SUBSCRIBE sets is the floor or the open sequence (R44). -/
theorem Accumulator.HistoryFits.startCursor_bounds (h : r.HistoryFits) (next : Bool) :
    1 ≤ (r.startCursor next).toNat ∧ (r.startCursor next).toNat ≤ r.openSequence.toNat := by
  obtain ⟨hlow, hhigh⟩ := h.floor_bounds
  cases next with
  | true => exact ⟨by show 1 ≤ r.openSequence.toNat; omega, le_refl _⟩
  | false => exact ⟨hlow, hhigh⟩

/-- The cursor that READ_HISTORY leaves lies after the records returned (R105). -/
theorem Accumulator.HistoryFits.read_cursor_bounds (h : r.HistoryFits) {p : Port} {e : ReaderEntry}
    (he : r.reader p = some e) (maximum : Nat) :
    let cursor := r.settled e.cursor + BitVec.ofNat 48 (r.recordsFrom (r.settled e.cursor) maximum).length
    1 ≤ cursor.toNat ∧ cursor.toNat ≤ r.openSequence.toNat := by
  intro cursor
  have hfloor : r.floor.toNat ≤ (r.settled e.cursor).toNat := by
    rw [Accumulator.settled_toNat]
    exact le_max_right _ _
  have hsettled := Accumulator.settled_le_open h he
  have hlength := Accumulator.recordsFrom_length h hfloor maximum
  have hlow := h.floor_bounds.1
  have hopen := r.openSequence.isLt
  have hcursor : cursor.toNat = (r.settled e.cursor).toNat + (r.recordsFrom (r.settled e.cursor) maximum).length := by
    rw [BitVec.toNat_add, BitVec.toNat_ofNat]
    omega
  omega

theorem Accumulator.HistoryFits.shrunk (h : r.HistoryFits) (depth : Nat) : (r.shrunk depth).HistoryFits := by
  have hring := h.consecutive.drop (r.ring.length - depth)
  obtain ⟨hlen, hopen, -, hcursors⟩ := h
  have hkept : (r.shrunk depth).ring.length = r.ring.length - (r.ring.length - depth) := List.length_drop
  refine ⟨?_, ?_, ?_, hcursors⟩
  · show (r.shrunk depth).ring.length ≤ depth
    omega
  · show (r.shrunk depth).ring.length < r.openSequence.toNat
    omega
  · have hfirst : r.openSequence.toNat - (r.shrunk depth).ring.length =
        r.openSequence.toNat - r.ring.length + (r.ring.length - depth) := by omega
    show _ = List.range' (r.openSequence.toNat - (r.shrunk depth).ring.length) _
    rw [hfirst]
    exact hring

theorem Accumulator.HistoryFits.grown (h : r.HistoryFits) {depth : Nat} (hd : r.depth ≤ depth) :
    Accumulator.HistoryFits { r with depth := depth } := by
  obtain ⟨hlen, hrest⟩ := h
  exact ⟨hlen.trans hd, hrest⟩

theorem Accumulator.historyFits_created (p : Port) (policies : Policies) (depth : Nat) :
    (Accumulator.created p policies depth).HistoryFits :=
  ⟨Nat.zero_le _, Nat.one_pos, rfl, fun q e he => by simp [Accumulator.created, Accumulator.reader] at he⟩

/-- A close below the last sequence appends the sequence that was open and opens the next (R18, R19, R101). -/
theorem Accumulator.HistoryFits.closed (h : r.HistoryFits) (hlast : r.openSequence ≠ Config.lastSequence) (cause : Cause)
    (tick : Word32) : (r.closed cause tick).HistoryFits := by
  have hring := h.consecutive
  obtain ⟨hlen, hopen, -, hcursors⟩ := h
  have hnext : (r.openSequence + 1).toNat = r.openSequence.toNat + 1 := by
    have hbelow : r.openSequence.toNat ≠ 2 ^ 48 - 1 := mt (eq_lastSequence_iff _).mpr hlast
    have hlt := r.openSequence.isLt
    rw [BitVec.toNat_add, show (1 : Sequence).toNat = 1 from rfl]
    omega
  have happend : Consecutive (r.openSequence.toNat - r.ring.length) (r.ring ++ [r.closing cause tick]) := by
    unfold Consecutive at hring ⊢
    rw [List.map_append, hring, List.length_append, List.length_singleton, List.range'_concat]
    simp only [List.map_singleton, Nat.one_mul, Accumulator.closing]
    congr 2
    omega
  have hkept : (r.closed cause tick).ring =
      (r.ring ++ [r.closing cause tick]).drop (r.ring.length + 1 - r.depth) := ringAppend_eq_drop _ hlen
  have hcount : (r.closed cause tick).ring.length = r.ring.length + 1 - (r.ring.length + 1 - r.depth) := by
    rw [hkept, List.length_drop, List.length_append, List.length_singleton]
  refine ⟨?_, ?_, ?_, fun p e he => ?_⟩
  · show (r.closed cause tick).ring.length ≤ r.depth
    omega
  · show (r.closed cause tick).ring.length < (r.openSequence + 1).toNat
    omega
  · have hfirst : (r.openSequence + 1).toNat - (r.closed cause tick).ring.length =
        r.openSequence.toNat - r.ring.length + (r.ring.length + 1 - r.depth) := by omega
    show _ = List.range' ((r.openSequence + 1).toNat - (r.closed cause tick).ring.length) _
    rw [hfirst, hkept]
    exact happend.drop _
  · obtain ⟨hlow, hhigh⟩ := hcursors p e he
    refine ⟨hlow, ?_⟩
    show e.cursor.toNat ≤ (r.openSequence + 1).toNat
    omega

end

end Sys2Proof.Machine
end

section
/-! PROOF. The blocks one by one: each answer to a request is an effect. -/

namespace Sys2Proof.Machine

section
variable {p : Port} {s : State} {a : AccIx} {r r' : Accumulator}

/-! ### Changes of one record -/

/-- A change of a record told to ports and followed by the monitors, the pool as it was. -/
theorem State.Effect.told (ha : s.acc a = some r) (hdepth : r'.depth = r.depth)
    (hhistory : r.HistoryFits → r'.HistoryFits)
    (hstanding : (s.session p).isOpen = true → r.StandsIn s → r'.StandsIn s) {es : Port → List EventRecord}
    (hes : Unmarked es) {v : Vector (Option Monitor) 16} (hv : s.MonitorsFollow a r r' v) :
    s.Effect p (((s.setAcc a (some r')).posted es).withMonitors v) :=
  State.Effect.changed (n := s.pool) ha (by rw [hdepth]) (.inl hdepth) hhistory hstanding hes hv

/-- A change of a record told to ports that takes access from nobody. -/
theorem State.Effect.posted (ha : s.acc a = some r) (hdepth : r'.depth = r.depth)
    (hhistory : r.HistoryFits → r'.HistoryFits)
    (hstanding : (s.session p).isOpen = true → r.StandsIn s → r'.StandsIn s)
    (haccess : ∀ q, r.access q = true → r'.access q = true) {es : Port → List EventRecord} (hes : Unmarked es) :
    s.Effect p ((s.setAcc a (some r')).posted es) :=
  State.Effect.told ha hdepth hhistory hstanding hes (State.monitorsFollow_self haccess)

/-- A change of a record alone. -/
theorem State.Effect.setAcc (ha : s.acc a = some r) (hdepth : r'.depth = r.depth)
    (hhistory : r.HistoryFits → r'.HistoryFits)
    (hstanding : (s.session p).isOpen = true → r.StandsIn s → r'.StandsIn s)
    (haccess : ∀ q, r.access q = true → r'.access q = true) : s.Effect p (s.setAcc a (some r')) := by
  have h := State.Effect.posted ha hdepth hhistory hstanding haccess unmarked_nothing
  rwa [State.posted_nothing] at h

/-- A change of a record told to ports that takes access at most from `q`, whose monitors there are detached if it does. -/
theorem State.Effect.loseAccess (ha : s.acc a = some r) (hdepth : r'.depth = r.depth)
    (hhistory : r.HistoryFits → r'.HistoryFits)
    (hstanding : (s.session p).isOpen = true → r.StandsIn s → r'.StandsIn s) {q : Port}
    (haccess : ∀ x, x ≠ q → r.access x = true → r'.access x = true) {es : Port → List EventRecord}
    (hes : Unmarked es) : s.Effect p (((s.setAcc a (some r')).posted es).loseAccess a q) := by
  rw [State.setAcc_posted_loseAccess]
  split
  · next hq =>
    refine State.Effect.posted ha hdepth hhistory hstanding (fun x hx => ?_) hes
    by_cases hxq : x = q
    · exact hxq ▸ hq
    · exact haccess x hxq hx
  · exact State.Effect.told ha hdepth hhistory hstanding (hes.append (s.detachNotices_unmarked _ _ _))
      (State.monitorsFollow_detached haccess)

/-! ### Accumulators (R5 to R9) -/

theorem State.createAt_effect {x : CreateArgs} (ha : s.acc a = none) (hdepth : x.depth ≤ 32) :
    s.Effect p (s.createAt p a x).1 := by
  unfold State.createAt
  split
  · exact .nothing
  · next hpool => exact .created ha (not_lt.mp hpool) hdepth

theorem State.lowestFree_acc (h : s.lowestFree = some a) : s.acc a = none := by
  simpa using List.find?_some h

theorem State.accCreate_effect {x : CreateArgs} (hdepth : x.depth ≤ 32) : s.Effect p (s.accCreate p x).1 := by
  unfold State.accCreate
  split
  · split
    · exact .nothing
    · next hfree => exact State.createAt_effect (by simpa using hfree) hdepth
  · split
    · next hleast => exact State.createAt_effect (State.lowestFree_acc hleast) hdepth
    · exact .nothing

theorem State.accConfigure_effect (x : AccIx × Policies) : s.Effect p (s.accConfigure p x).1 := by
  unfold State.accConfigure
  split
  · exact .nothing
  · next ha =>
    split_ifs
    · exact .nothing
    · exact .nothing
    · exact .setAcc ha rfl (fun h => h) (fun _ h => h) fun _ h => h

theorem State.accRelease_effect (a : AccIx) : s.Effect p (s.accRelease p a).1 := by
  unfold State.accRelease
  split
  · exact .nothing
  · next ha =>
    split_ifs
    · exact .nothing
    · exact .released ha

/-! ### Sharing (R28 to R46) -/

/-- A contributor added whose session is OPEN and that is not the owner (R30). -/
theorem Accumulator.StandsIn.addContributor {q : Port} (h : r.StandsIn s) (hopen : (s.session q).isOpen = true)
    (howner : r.owner ≠ some q) : (r.setContributor q true).StandsIn s := by
  obtain ⟨hown, hcontributors, hreaders, hoffer⟩ := h
  refine ⟨fun x hx => ⟨(hown x hx).1, ?_⟩, fun x hx => ?_, hreaders, hoffer⟩
  · have hxq : x ≠ q := fun e => howner (e ▸ hx)
    rw [Accumulator.setContributor_isContributor, if_neg hxq]
    exact (hown x hx).2
  · rw [Accumulator.setContributor_isContributor] at hx
    split at hx
    · next e => exact e ▸ hopen
    · exact hcontributors x hx

theorem Accumulator.StandsIn.removeContributor (h : r.StandsIn s) (q : Port) :
    (r.setContributor q false).StandsIn s := by
  obtain ⟨hown, hcontributors, hreaders, hoffer⟩ := h
  refine ⟨fun x hx => ⟨(hown x hx).1, ?_⟩, fun x hx => ?_, hreaders, hoffer⟩
  · rw [Accumulator.setContributor_isContributor]
    split
    · rfl
    · exact (hown x hx).2
  · rw [Accumulator.setContributor_isContributor] at hx
    split at hx
    · cases hx
    · exact hcontributors x hx

theorem Accumulator.access_addContributor (r : Accumulator) (q : Port) {x : Port} (h : r.access x = true) :
    (r.setContributor q true).access x = true := by
  rw [Accumulator.access_iff] at h ⊢
  rw [Accumulator.setContributor_isContributor]
  refine h.imp_right (Or.imp_left fun hx => ?_)
  split
  · rfl
  · exact hx

theorem Accumulator.access_removeContributor (r : Accumulator) {q x : Port} (hx : x ≠ q) (h : r.access x = true) :
    (r.setContributor q false).access x = true := by
  rw [Accumulator.access_iff] at h ⊢
  rwa [Accumulator.setContributor_isContributor, if_neg hx]

theorem State.grantAdd_effect {q : Port} (ha : s.acc a = some r) (hopen : (s.session q).isOpen = true)
    (howner : r.owner ≠ some q) : s.Effect p (s.grantAdd a r q) := by
  unfold State.grantAdd
  split
  · exact .nothing
  · rw [State.post_eq_posted]
    exact .posted (r' := r.setContributor q true) ha rfl (fun h => h) (fun _ h => h.addContributor hopen howner)
      (fun _ => r.access_addContributor q) (unmarked_toEach _ (by rfl))

theorem State.grantRemove_effect {q : Port} (ha : s.acc a = some r) : s.Effect p (s.grantRemove a r q) := by
  unfold State.grantRemove
  rw [State.post_eq_posted]
  exact .loseAccess (r' := r.setContributor q false) ha rfl (fun h => h) (fun _ h => h.removeContributor q)
    (fun _ hx => r.access_removeContributor hx) (unmarked_toEach _ (by rfl))

theorem State.accGrant_effect (x : GrantArgs) : s.Effect p (s.accGrant p x).1 := by
  cases ha : s.acc x.acc with
  | none => rw [State.accGrant_of_free p ha]; exact .nothing
  | some r =>
    rw [State.accGrant_of_inUse p ha]
    split_ifs with howner htarget hclosed
    · exact .nothing
    · exact .nothing
    · exact .nothing
    · have hother : r.owner ≠ some x.target := fun e => htarget (Option.some.inj (e.symm.trans (not_not.mp howner)))
      exact State.grantAdd_effect ha (Bool.eq_true_of_not_eq_false hclosed) hother
    · exact .nothing
    · exact State.grantRemove_effect ha

/-- An offer to another port whose session is OPEN, or none (R33). -/
theorem Accumulator.StandsIn.setOffer (h : r.StandsIn s) (howner : r.owner = some p) {o : Option Offer}
    (ho : ∀ x, o = some x → (s.session x.port).isOpen = true ∧ x.port ≠ p) :
    Accumulator.StandsIn { r with offer := o } s := by
  obtain ⟨hown, hcontributors, hreaders, -⟩ := h
  exact ⟨hown, hcontributors, hreaders, fun x hx => ⟨(ho x hx).1, p, howner, (ho x hx).2.symm⟩⟩

/-- The port that a present offer named, told OFFER_WITHDRAWN (R34). -/
theorem State.withdrawOffer_eq (s : State) (a : AccIx) (r : Accumulator) :
    s.withdrawOffer a r = s.posted (toEach (fun q => r.offer.any (·.port == q)) ⟨.offerWithdrawn a, s.tick⟩) := by
  unfold State.withdrawOffer
  cases r.offer with
  | none => exact (s.posted_offered_none _).symm
  | some o => exact (s.posted_offered_some o _).symm

/-- ACC_OFFER past its checks: the offer of the request, OFFER_WITHDRAWN to the port of the one before it, and OFFER to the
port named (R34). -/
theorem State.setOffer_eq (s : State) (p : Port) (x : OfferArgs) (r : Accumulator) : s.setOffer p x r =
    (s.setAcc x.acc (some { r with offer := x.target.map fun q => { port := q, keep := x.keep } })).posted fun q =>
      toEach (fun q => r.offer.any (·.port == q)) ⟨.offerWithdrawn x.acc, s.tick⟩ q ++
        toEach (fun q => x.target == some q) ⟨.offer x.acc p x.keep, s.tick⟩ q := by
  rw [← State.posted_posted]
  unfold State.setOffer
  cases htarget : x.target with
  | none =>
    rw [State.withdrawOffer_eq]
    exact (State.posted_nothing _).symm
  | some q =>
    have hnamed : (fun q' => some q == some q') = fun q' => q' == q := by
      funext q'
      rw [Option.some_beq_some, Bool.beq_comm]
    simp only [State.withdrawOffer_eq, State.post_eq_posted, hnamed]
    rfl

theorem State.setOffer_effect {x : OfferArgs} (ha : s.acc x.acc = some r) (howner : r.owner = some p)
    (htarget : ∀ q, x.target = some q → (s.session q).isOpen = true ∧ q ≠ p) : s.Effect p (s.setOffer p x r) := by
  rw [State.setOffer_eq]
  refine .posted ha (by rfl) (by exact fun h => h) (fun _ h => h.setOffer howner fun o ho => ?_) (by exact fun _ h => h) ?_
  · obtain ⟨q, hq, rfl⟩ := Option.map_eq_some_iff.mp ho
    exact htarget q hq
  · exact (unmarked_toEach _ rfl).append (unmarked_toEach _ rfl)

theorem State.accOffer_of_free {x : OfferArgs} (p : Port) (h : s.acc x.acc = none) :
    s.accOffer p x = (s, .plain .gone) := by
  simp [State.accOffer, h]

/-- ACC_OFFER on a record in use, its checks in the order of R33. -/
theorem State.accOffer_of_inUse {x : OfferArgs} (p : Port) (h : s.acc x.acc = some r) : s.accOffer p x =
    if r.owner ≠ some p then (s, .plain .notOwner)
    else if x.target = some p then (s, .plain .badField)
    else if x.target.any (fun q => !(s.session q).isOpen) then (s, .plain .badField)
    else (s.setOffer p x r, .okay []) := by
  by_cases ho : r.owner = some p
  · have hself : x.target.any (r.ownedBy ·) = true ↔ x.target = some p := by
      cases htarget : x.target <;> simp [Accumulator.ownedBy, ho, eq_comm (a := p)]
    simp only [State.accOffer, h, hself, ho]
    simp [Accumulator.ownedBy, ho]
  · simp [State.accOffer, h, Accumulator.ownedBy, ho]

theorem State.accOffer_effect (x : OfferArgs) : s.Effect p (s.accOffer p x).1 := by
  cases ha : s.acc x.acc with
  | none => rw [State.accOffer_of_free p ha]; exact .nothing
  | some r =>
    rw [State.accOffer_of_inUse p ha]
    split_ifs with howner hself hclosed
    · exact .nothing
    · exact .nothing
    · exact .nothing
    · refine State.setOffer_effect ha (not_not.mp howner) fun q hq => ⟨?_, fun e => hself (e ▸ hq)⟩
      simpa [hq] using hclosed

/-- The record after an acceptance: the new owner is no contributor, and every contributor's session is OPEN (R36). -/
theorem Accumulator.StandsIn.accepted (h : r.StandsIn s) {q : Port} {o : Offer} (hp : (s.session p).isOpen = true)
    (howner : r.owner = some q) (hoffer : r.offer = some o) (hport : o.port = p) : (r.accepted p q o).StandsIn s := by
  obtain ⟨hown, hcontributors, hreaders, hoffers⟩ := h
  have hqp : q ≠ p := by
    obtain ⟨-, q', hq', hne⟩ := hoffers o hoffer
    exact hport ▸ Option.some.inj (howner.symm.trans hq') ▸ hne
  rw [Accumulator.accepted_eq r o hqp]
  refine ⟨fun x hx => ?_, fun x hx => ?_, hreaders, fun o ho => by cases ho⟩
  · obtain rfl := Option.some.inj hx
    refine ⟨hp, ?_⟩
    show entry (withEntry (withEntry _ _ _) _ _) _ = _
    rw [entry_withEntry_ne _ _ hqp.symm, entry_withEntry_self]
  · by_cases hxq : x = q
    · exact hxq ▸ (hown q howner).1
    · refine hcontributors x ?_
      change entry (withEntry (withEntry _ _ _) _ _) _ = _ at hx
      rw [entry_withEntry_ne _ _ hxq, entry_withEntry] at hx
      split at hx
      · cases hx
      · exact hx

theorem Accumulator.access_accepted {q x : Port} (o : Offer) (howner : r.owner = some q) (hx : x ≠ q)
    (h : r.access x = true) : (r.accepted p q o).access x = true := by
  rw [Accumulator.access_iff] at h ⊢
  by_cases hxp : x = p
  · exact .inl (hxp ▸ rfl)
  · refine .inr ((h.resolve_left fun e => hx (Option.some.inj (e.symm.trans howner))).imp_left fun hc => ?_)
    show entry (Accumulator.contributors (r.accepted p q o)) x = true
    unfold Accumulator.accepted
    dsimp only
    split
    · rw [entry_withEntry_ne _ _ hx, entry_withEntry_ne _ _ hxp]
      exact hc
    · rw [entry_withEntry_ne _ _ hxp]
      exact hc

theorem State.transfer_effect {q : Port} {o : Offer} (ha : s.acc a = some r) (howner : r.owner = some q)
    (hoffer : r.offer = some o) (hport : o.port = p) : s.Effect p (s.transfer a r p q o) := by
  unfold State.transfer
  dsimp only
  rw [State.postEach_filter]
  exact .loseAccess (r' := r.accepted p q o) ha rfl (fun h => h) (fun hp h => h.accepted hp howner hoffer hport)
    (fun x hx => Accumulator.access_accepted o howner hx) (unmarked_toEach _ (by rfl))

theorem State.accAccept_effect (a : AccIx) : s.Effect p (s.accAccept p a).1 := by
  unfold State.accAccept
  split
  · exact .nothing
  · next ha =>
    split
    · next howner hoffer =>
      split
      · next hport => exact State.transfer_effect ha howner hoffer hport
      · exact .nothing
    · exact .nothing

/-- The record after a claim of an ORPHANED record (R41). -/
theorem Accumulator.StandsIn.claimed (h : r.StandsIn s) (hp : (s.session p).isOpen = true) (howner : r.owner = none) :
    Accumulator.StandsIn { r with owner := some p, contributors := withEntry r.contributors p false } s := by
  obtain ⟨-, hcontributors, hreaders, -⟩ := id (h.removeContributor p)
  obtain ⟨-, -, -, hoffer⟩ := h
  refine ⟨fun x hx => ?_, hcontributors, hreaders, fun o ho => ?_⟩
  · obtain rfl := Option.some.inj hx
    exact ⟨hp, entry_withEntry_self _ _ _⟩
  · obtain ⟨-, q, hq, -⟩ := hoffer o ho
    exact absurd (howner.symm.trans hq) (by simp)

theorem Accumulator.access_claimed {x : Port} (howner : r.owner = none) (h : r.access x = true) :
    Accumulator.access { r with owner := some p, contributors := withEntry r.contributors p false } x = true := by
  rw [Accumulator.access_iff] at h ⊢
  by_cases hxp : x = p
  · exact .inl (hxp ▸ rfl)
  · refine .inr ((h.resolve_left (by simp [howner])).imp_left fun hc => ?_)
    exact (entry_withEntry_ne _ _ hxp).trans hc

theorem State.accClaim_effect (a : AccIx) : s.Effect p (s.accClaim p a).1 := by
  cases ha : s.acc a with
  | none => rw [State.accClaim_of_free p ha]; exact .nothing
  | some r =>
    rw [State.accClaim_of_inUse p ha]
    split_ifs with howner
    · exact .nothing
    · exact .nothing
    · have hnone : r.owner = none := not_not.mp howner
      exact .posted (r' := { r with owner := some p, contributors := withEntry r.contributors p false }) ha rfl
        (fun h => h) (fun hp h => h.claimed hp hnone) (fun _ => Accumulator.access_claimed hnone)
        (unmarked_toEach _ (by rfl))

theorem Accumulator.StandsIn.setReader (h : r.StandsIn s) (hp : (s.session p).isOpen = true) (e : Option ReaderEntry) :
    (r.setReader p e).StandsIn s := by
  obtain ⟨hown, hcontributors, hreaders, hoffer⟩ := h
  refine ⟨hown, hcontributors, fun x hx => ?_, hoffer⟩
  by_cases hxp : x = p
  · exact hxp ▸ hp
  · rw [Accumulator.setReader_reader, if_neg hxp] at hx
    exact hreaders x hx

theorem Accumulator.access_setReader (r : Accumulator) {x : Port} (e : Option ReaderEntry) (hx : x ≠ p)
    (h : r.access x = true) : (r.setReader p e).access x = true := by
  rw [Accumulator.access_iff] at h ⊢
  rwa [Accumulator.setReader_reader, if_neg hx]

theorem Accumulator.access_setReader_some (r : Accumulator) (p : Port) (e : ReaderEntry) {x : Port}
    (h : r.access x = true) : (r.setReader p (some e)).access x = true := by
  by_cases hx : x = p
  · subst hx
    exact (Accumulator.access_iff _ _).mpr (.inr (.inr (by simp)))
  · exact r.access_setReader _ hx h

theorem State.subscribe_effect (x : SubscribeArgs) : s.Effect p (s.subscribe p x).1 := by
  unfold State.subscribe
  split
  · exact .nothing
  · next r ha =>
    split_ifs
    · exact .nothing
    · refine .setAcc ha rfl (fun h => h.setReader p fun e he => ?_) (fun hp h => h.setReader hp _)
        fun _ => r.access_setReader_some p _
      exact Option.some.inj he ▸ h.startCursor_bounds x.next

theorem State.unsubscribe_effect (a : AccIx) : s.Effect p (s.unsubscribe p a).1 := by
  unfold State.unsubscribe
  split
  · exact .nothing
  · next r ha =>
    split_ifs
    · exact .nothing
    · have h := State.Effect.loseAccess (p := p) ha (r' := r.setReader p none) rfl
        (fun h => h.setReader p fun e he => by cases he) (fun hp h => h.setReader hp _)
        (fun x hx => r.access_setReader _ hx) unmarked_nothing
      rwa [State.posted_nothing] at h

/-! ### Histories (R104, R105, R108 to R110) -/

theorem State.readHistory_effect (x : HistoryArgs) : s.Effect p (s.readHistory p x).1 := by
  unfold State.readHistory
  split
  · exact .nothing
  · next r ha =>
    split
    · exact .nothing
    · next e he =>
      refine .setAcc ha rfl (fun h => h.setReader p fun e' he' => ?_) (fun hp h => h.setReader hp _)
        fun _ => r.access_setReader_some p _
      exact Option.some.inj he' ▸ h.read_cursor_bounds he x.maximum

/-- A change of pool and record with the same standing and access. -/
theorem State.Effect.resized {n : Nat} (ha : s.acc a = some r) (hpool : n + r'.depth = s.pool + r.depth)
    (hdepth : r'.depth ≤ 32) (hhistory : r.HistoryFits → r'.HistoryFits)
    (hstanding : (s.session p).isOpen = true → r.StandsIn s → r'.StandsIn s)
    (haccess : ∀ q, r.access q = true → r'.access q = true) :
    s.Effect p ((s.setPool n).setAcc a (some r')) := by
  have h := State.Effect.changed (es := fun _ => []) ha hpool (.inr hdepth) hhistory hstanding unmarked_nothing
    (State.monitorsFollow_self haccess)
  rwa [State.posted_nothing] at h

theorem State.historyResize_effect {x : AccIx × Nat} (hdepth : x.2 ≤ 32) : s.Effect p (s.historyResize p x).1 := by
  unfold State.historyResize
  split
  · exact .nothing
  · next r ha =>
    split_ifs with howner hgrow hshort hshrink
    · exact .nothing
    · exact .nothing
    · refine .resized ha ?_ hdepth (fun h => h.grown hgrow.le) (fun _ h => h) fun _ h => h
      show s.pool - (x.2 - r.depth) + x.2 = s.pool + r.depth
      omega
    · refine .resized ha ?_ hdepth (fun h => h.shrunk x.2) (fun _ h => h) fun _ h => h
      show s.pool + (r.depth - x.2) + x.2 = s.pool + r.depth
      omega
    · exact .nothing

theorem State.readLive_effect (x : AccIx × Option ReadFormat) : s.Effect p (s.readLive p x).1 := by
  have hsame : (s.readLive p x).1 = s := by
    unfold State.readLive
    split
    · rfl
    · split_ifs <;> rfl
  rw [hsame]
  exact .nothing

theorem State.readRecord_effect (x : AccIx × Sequence) : s.Effect p (s.readRecord p x).1 := by
  have hsame : (s.readRecord p x).1 = s := by
    unfold State.readRecord
    split
    · rfl
    · split
      · split <;> rfl
      · rfl
  rw [hsame]
  exact .nothing

/-! ### Monitors (R130, R131, R138, R140) -/

theorem State.monCreate_effect {x : AccIx × MonitorConfig}
    (hbounds : boundsDefined x.2.low x.2.high x.2.hysteresis = true) : s.Effect p (s.monCreate p x).1 := by
  unfold State.monCreate
  split
  · exact .nothing
  · next ha =>
    split
    · next haccess =>
      split
      · exact .nothing
      · exact .armed rfl (fun _ => hbounds) ha haccess
    · exact .nothing

theorem State.monAttach_effect (x : MonIx × AccIx) : s.Effect p (s.monAttach p x).1 := by
  unfold State.monAttach
  split
  · exact .nothing
  · next ha =>
    split
    · exact .nothing
    · next m hm =>
      split_ifs with howner harmed haccess
      · exact .nothing
      · exact .nothing
      · exact .armed (not_not.mp howner) (fun h => (h x.1 m hm).2.1) ha haccess
      · exact .nothing

theorem State.monFree_effect (i : MonIx) : s.Effect p (s.monFree p i).1 := by
  unfold State.monFree
  split
  · exact .nothing
  · split_ifs
    · exact .nothing
    · exact .freed

/-! ### Groups (R80 to R84) -/

theorem State.groupClaim_effect (hready : s.clockReady = true) (g : GroupIx) : s.Effect p (s.groupClaim p g).1 := by
  unfold State.groupClaim
  split_ifs
  · exact .nothing
  · exact .scheduled hready (.inr (.inl rfl)) rfl fun _ h => h

theorem State.groupRelease_effect (hready : s.clockReady = true) (g : GroupIx) :
    s.Effect p (s.groupRelease p g).1 := by
  unfold State.groupRelease
  split_ifs
  · exact .nothing
  · exact .scheduled hready (.inl rfl) rfl fun _ h => h

theorem Group.countdown_of_not_running {r : Group} (h : ¬ r.running = true) : r.countdown = none := by
  simpa [Group.running] using h

theorem State.groupSet_effect (hready : s.clockReady = true) {x : GroupIx × Nat} (hx : 1 ≤ x.2 ∧ x.2 ≤ 65535) :
    s.Effect p (s.groupSet p x).1 := by
  unfold State.groupSet
  split_ifs with howner hrunning
  · exact .nothing
  · exact .nothing
  · refine .scheduled hready (.inr (.inr rfl)) rfl fun _ hfits => ?_
    obtain ⟨-, -, -, hdue⟩ := hfits
    have hstopped := Group.countdown_of_not_running hrunning
    exact ⟨hx.1, hx.2, fun c hc => by simp [hstopped] at hc, hdue⟩

theorem State.groupStart_effect (hready : s.clockReady = true) {x : GroupIx × Option Nat}
    (hx : ∀ n, x.2 = some n → 1 ≤ n) : s.Effect p (s.groupStart p x).1 := by
  unfold State.groupStart
  dsimp only
  split_ifs with howner hrunning hphase
  · exact .nothing
  · exact .nothing
  · exact .nothing
  · refine .scheduled hready (.inr (.inr rfl)) rfl fun hnot hfits => ?_
    obtain ⟨hlow, hhigh, -, -⟩ := hfits
    refine ⟨hlow, hhigh, fun c hc => ?_, fun hdue => absurd (hnot.symm.trans hdue) (by decide)⟩
    obtain rfl := Option.some.inj hc
    cases hn : x.2 with
    | none => exact ⟨hlow, le_refl _⟩
    | some n =>
      rw [hn] at hphase
      exact ⟨hx n hn, not_lt.mp hphase⟩

theorem State.groupStop_effect (hready : s.clockReady = true) (g : GroupIx) : s.Effect p (s.groupStop p g).1 := by
  unfold State.groupStop
  split_ifs
  · exact .nothing
  · split
    · refine .scheduled hready (.inr (.inr rfl)) rfl fun hnot hfits => ?_
      obtain ⟨hlow, hhigh, -, -⟩ := hfits
      refine ⟨hlow, hhigh, fun c hc => ?_, fun hdue => absurd (hnot.symm.trans hdue) (by decide)⟩
      cases hc
    · exact .nothing

/-! ### Jobs (R49 to R53, R70) -/

theorem State.appendJob_effect (tag : Byte) (w : Work) (hroom : (s.jobs p).length < 4) :
    s.Effect p (s.appendJob p tag w) := by
  have hqueued : s.Effect p (s.setJobs p (s.jobs p ++
      [{ tag := tag, port := p, session := (s.session p).number, work := w, mark := .none }])) :=
    .queued hroom rfl rfl
  unfold State.appendJob
  dsimp only
  split
  · exact hqueued.granted
  · exact hqueued

theorem State.cancelQueued_effect (tag : Byte) : s.Effect p (s.cancelQueued p tag).1 := by
  unfold State.cancelQueued
  split
  · exact (State.Effect.dequeued (List.eraseP_sublist (p := s.qualifies p tag))).reply
  · exact .nothing

theorem State.jobCancel_effect (tag : Byte) : s.Effect p (s.jobCancel p tag).1 := by
  unfold State.jobCancel
  split
  · split
    · exact .marked
    · exact s.cancelQueued_effect tag
  · exact s.cancelQueued_effect tag

/-! ### The session timer (R162, R170) -/

theorem State.takeStatus_effect (x : Unit) : s.Effect p (s.takeStatus p x).1 := by
  unfold State.takeStatus
  split <;> exact .nothing

end

/-! ### Every kind of request -/

/-- The command of a kind is the decoder's serving of a block whose every answer is an effect, and whose readiness the
request's leaving the queue does not change. -/
def Kind.Effective (k : Kind) : Prop :=
  ∃ (α : Type) (operands : List Byte → Except Status α) (ready : Port → State → α → Bool)
    (take : Port → State → Byte → α → State),
    (∀ p s, exec (k.command p) s = .next (s.serve p k operands (ready p) (take p))) ∧
    (∀ p s x, ready p (s.popped p) x = ready p s x) ∧
    ∀ p s tag l x, operands l = .ok x → ready p s x = true → s.Effect p (take p s tag x)

theorem Kind.effective : ∀ k : Kind, k ≠ .openSession → k.Effective
  | .openSession, h => absurd rfl h
  | .closeSession, _ => ⟨_, _, _, _, fun _ _ => rfl, fun _ _ _ => rfl, fun _ _ _ _ _ _ _ => .ended⟩
  | .portStatus, _ => ⟨_, _, _, _, fun _ _ => rfl, fun _ _ _ => rfl, fun _ s _ _ x _ _ => (s.takeStatus_effect x).reply⟩
  | .accCreate, _ =>
    ⟨_, _, _, _, fun _ _ => rfl, fun _ _ _ => rfl, fun _ _ _ _ _ hx _ => (State.accCreate_effect (createOperands_depth hx)).reply⟩
  | .accConfigure, _ => ⟨_, _, _, _, fun _ _ => rfl, fun _ _ _ => rfl, fun _ s _ _ x _ _ => (s.accConfigure_effect x).reply⟩
  | .accRelease, _ => ⟨_, _, _, _, fun _ _ => rfl, fun _ _ _ => rfl, fun _ s _ _ x _ _ => (s.accRelease_effect x).reply⟩
  | .accInfo, _ => ⟨_, _, _, _, fun _ _ => rfl, fun _ _ _ => rfl, fun _ _ _ _ _ _ _ => State.Effect.nothing.reply⟩
  | .accGrant, _ => ⟨_, _, _, _, fun _ _ => rfl, fun _ _ _ => rfl, fun _ s _ _ x _ _ => (s.accGrant_effect x).reply⟩
  | .accOffer, _ => ⟨_, _, _, _, fun _ _ => rfl, fun _ _ _ => rfl, fun _ s _ _ x _ _ => (s.accOffer_effect x).reply⟩
  | .accAccept, _ => ⟨_, _, _, _, fun _ _ => rfl, fun _ _ _ => rfl, fun _ s _ _ x _ _ => (s.accAccept_effect x).reply⟩
  | .accClaim, _ => ⟨_, _, _, _, fun _ _ => rfl, fun _ _ _ => rfl, fun _ s _ _ x _ _ => (s.accClaim_effect x).reply⟩
  | .subscribe, _ => ⟨_, _, _, _, fun _ _ => rfl, fun _ _ _ => rfl, fun _ s _ _ x _ _ => (s.subscribe_effect x).reply⟩
  | .unsubscribe, _ => ⟨_, _, _, _, fun _ _ => rfl, fun _ _ _ => rfl, fun _ s _ _ x _ _ => (s.unsubscribe_effect x).reply⟩
  | .accumulate, _ | .load, _ | .closeWindow, _ | .fence, _ =>
    ⟨_, _, _, _, fun _ _ => rfl, fun _ _ _ => rfl, fun _ s tag _ x _ hroom => s.appendJob_effect tag x (of_decide_eq_true hroom)⟩
  | .jobCancel, _ => ⟨_, _, _, _, fun _ _ => rfl, fun _ _ _ => rfl, fun _ s _ _ x _ _ => (s.jobCancel_effect x).reply⟩
  | .readLive, _ => ⟨_, _, _, _, fun _ _ => rfl, fun _ _ _ => rfl, fun _ s _ _ x _ _ => (s.readLive_effect x).reply⟩
  | .readHistory, _ => ⟨_, _, _, _, fun _ _ => rfl, fun _ _ _ => rfl, fun _ s _ _ x _ _ => (s.readHistory_effect x).reply⟩
  | .readRecord, _ => ⟨_, _, _, _, fun _ _ => rfl, fun _ _ _ => rfl, fun _ s _ _ x _ _ => (s.readRecord_effect x).reply⟩
  | .historyResize, _ =>
    ⟨_, _, _, _, fun _ _ => rfl, fun _ _ _ => rfl, fun _ _ _ _ _ hx _ => (State.historyResize_effect (resizeOperands_depth hx)).reply⟩
  | .groupClaim, _ => ⟨_, _, _, _, fun _ _ => rfl, fun _ _ _ => rfl, fun _ s _ _ x _ hready => (s.groupClaim_effect hready x).reply⟩
  | .groupSet, _ =>
    ⟨_, _, _, _, fun _ _ => rfl, fun _ _ _ => rfl, fun _ _ _ _ _ hx hready => (State.groupSet_effect hready (groupSetOperands_period hx)).reply⟩
  | .groupStart, _ =>
    ⟨_, _, _, _, fun _ _ => rfl, fun _ _ _ => rfl, fun _ _ _ _ _ hx hready =>
      (State.groupStart_effect hready fun _ => groupStartOperands_phase hx).reply⟩
  | .groupStop, _ => ⟨_, _, _, _, fun _ _ => rfl, fun _ _ _ => rfl, fun _ s _ _ x _ hready => (s.groupStop_effect hready x).reply⟩
  | .groupRelease, _ =>
    ⟨_, _, _, _, fun _ _ => rfl, fun _ _ _ => rfl, fun _ s _ _ x _ hready => (s.groupRelease_effect hready x).reply⟩
  | .groupInfo, _ => ⟨_, _, _, _, fun _ _ => rfl, fun _ _ _ => rfl, fun _ _ _ _ _ _ _ => State.Effect.nothing.reply⟩
  | .monCreate, _ =>
    ⟨_, _, _, _, fun _ _ => rfl, fun _ _ _ => rfl, fun _ _ _ _ _ hx _ => (State.monCreate_effect (monCreateOperands_bounds hx)).reply⟩
  | .monAttach, _ => ⟨_, _, _, _, fun _ _ => rfl, fun _ _ _ => rfl, fun _ s _ _ x _ _ => (s.monAttach_effect x).reply⟩
  | .monFree, _ => ⟨_, _, _, _, fun _ _ => rfl, fun _ _ _ => rfl, fun _ s _ _ x _ _ => (s.monFree_effect x).reply⟩
  | .monInfo, _ => ⟨_, _, _, _, fun _ _ => rfl, fun _ _ _ => rfl, fun _ _ _ _ _ _ _ => State.Effect.nothing.reply⟩
  | .eventFetch, _ => ⟨_, _, _, _, fun _ _ => rfl, fun _ _ _ => rfl, fun _ _ _ _ _ _ _ => State.Effect.fetched.reply⟩

end Sys2Proof.Machine
end

section
/-! PROOF. The invariants that hold of ports, event queues, pool and histories each by itself (O6 to O9), and that every
command answers a next state and leaves the queue of commands alone (O2). -/

namespace Sys2Proof.Machine

/-! ### The commands: requests and the rest -/

/-- A command is a request's, or one of the eighteen others. -/
theorem Instr.forall_of_requests {P : Instr → Prop} (request : ∀ (k : Kind) p, P (k.command p)) (deviceReset : P .deviceReset)
    (resetnReturnsHigh : P .resetnReturnsHigh) (tick : P .tick) (leaseExpiry : ∀ p, P (.leaseExpiry p))
    (boundary : ∀ g, P (.boundary g)) (boundaryNotice : ∀ g, P (.boundaryNotice g))
    (closeClaim : ∀ a, P (.closeClaim a)) (transactionStart : ∀ p, P (.transactionStart p))
    (transactionEnd : ∀ p, P (.transactionEnd p)) (null : ∀ p, P (.null p)) (resync : ∀ p, P (.resync p))
    (badKind : ∀ p, P (.badKind p)) (engineSessionEnd : ∀ p, P (.engineSessionEnd p))
    (eventQueueSessionEnd : ∀ p, P (.eventQueueSessionEnd p)) (portSessionEnd : ∀ p, P (.portSessionEnd p))
    (grant : P .grant) (jobCompletion : P .jobCompletion) (byteShifted : ∀ p b, P (.byteShifted p b)) :
    ∀ c : Instr, P c
  | .deviceReset => deviceReset
  | .tick => tick
  | .leaseExpiry p => leaseExpiry p
  | .boundary g => boundary g
  | .boundaryNotice g => boundaryNotice g
  | .closeClaim a => closeClaim a
  | .transactionStart p => transactionStart p
  | .transactionEnd p => transactionEnd p
  | .null p => null p
  | .resync p => resync p
  | .badKind p => badKind p
  | .openSession p => request .openSession p
  | .closeSession p => request .closeSession p
  | .portStatus p => request .portStatus p
  | .engineSessionEnd p => engineSessionEnd p
  | .eventQueueSessionEnd p => eventQueueSessionEnd p
  | .portSessionEnd p => portSessionEnd p
  | .accCreate p => request .accCreate p
  | .accConfigure p => request .accConfigure p
  | .accRelease p => request .accRelease p
  | .accInfo p => request .accInfo p
  | .accGrant p => request .accGrant p
  | .accOffer p => request .accOffer p
  | .accAccept p => request .accAccept p
  | .accClaim p => request .accClaim p
  | .subscribe p => request .subscribe p
  | .unsubscribe p => request .unsubscribe p
  | .accumulate p => request .accumulate p
  | .load p => request .load p
  | .closeWindow p => request .closeWindow p
  | .fence p => request .fence p
  | .grant => grant
  | .jobCompletion => jobCompletion
  | .jobCancel p => request .jobCancel p
  | .readLive p => request .readLive p
  | .readHistory p => request .readHistory p
  | .readRecord p => request .readRecord p
  | .historyResize p => request .historyResize p
  | .groupClaim p => request .groupClaim p
  | .groupSet p => request .groupSet p
  | .groupStart p => request .groupStart p
  | .groupStop p => request .groupStop p
  | .groupRelease p => request .groupRelease p
  | .groupInfo p => request .groupInfo p
  | .monCreate p => request .monCreate p
  | .monAttach p => request .monAttach p
  | .monFree p => request .monFree p
  | .monInfo p => request .monInfo p
  | .eventFetch p => request .eventFetch p
  | .byteShifted p b => byteShifted p b
  | .resetnReturnsHigh => resetnReturnsHigh

/-- All that the decoder's serving of a request can do (R181, R182). -/
theorem State.serve_induct {P : State → Prop} {α : Type} {s : State} {p : Port} {k : Kind}
    {operands : List Byte → Except Status α} {ready : State → α → Bool} {take : State → Byte → α → State}
    (idle : P s) (refused : ∀ f st, s.HeadIs p k f → P (s.answered p f st []))
    (held : ∀ f, s.HeadIs p k f → s.sessionRefuses p k = false → P (s.held p))
    (taken : ∀ f x, s.HeadIs p k f → s.sessionRefuses p k = false → operands f.payload = .ok x → ready s x = true →
      P (take (s.popped p) f.tag x)) : P (s.serve p k operands ready take) := by
  by_cases hhead : ∃ f, s.HeadIs p k f
  · obtain ⟨f, hf⟩ := hhead
    rw [State.serve_eq _ _ _ hf]
    split
    · exact refused f _ hf
    · next hsession =>
      have hpass := Bool.eq_false_iff.mpr hsession
      cases hx : operands f.payload with
      | error st => exact refused f st hf
      | ok x =>
        dsimp only
        split
        · next hready => exact taken f x hf hpass hx hready
        · exact held f hf hpass
  · rw [State.serve_of_ne _ _ _ fun f hf => hhead ⟨f, hf⟩]
    exact idle

/-! ### Event queues (R145, R147) -/

theorem EventRecord.countFits_of_unmarked {e : EventRecord} (h : e.isMarker = false) : e.CountFits := by
  obtain ⟨e, t⟩ := e
  cases e with
  | eventsLost n => cases h
  | _ => trivial

/-- A queue that fits, by its last record: all others are no marker. -/
theorem queueFits_concat (l : List EventRecord) (e : EventRecord) : QueueFits (l ++ [e]) ↔
    (∀ x ∈ l, x.isMarker = false) ∧ (l.length + if e.isMarker then 0 else 1) ≤ 15 ∧ e.CountFits := by
  unfold QueueFits
  rw [List.dropLast_concat]
  have hcount : (∀ x ∈ l, x.isMarker = false) →
      ((l ++ [e]).filter fun e => !e.isMarker).length = l.length + if e.isMarker then 0 else 1 := fun h => by
    rw [List.filter_append, List.filter_eq_self.mpr fun x hx => by simp [h x hx], List.length_append]
    cases he : e.isMarker <;> simp [he]
  constructor
  · rintro ⟨hlen, hunmarked, hcounts⟩
    exact ⟨hunmarked, hcount hunmarked ▸ hlen, hcounts e (by simp)⟩
  · rintro ⟨hunmarked, hlen, hfits⟩
    refine ⟨(hcount hunmarked).symm ▸ hlen, hunmarked, fun x hx => ?_⟩
    obtain hx | hx := List.mem_append.mp hx
    · exact EventRecord.countFits_of_unmarked (hunmarked x hx)
    · exact List.mem_singleton.mp hx ▸ hfits

theorem queueFits_nil : QueueFits [] := ⟨Nat.zero_le _, by simp, by simp⟩

theorem EventRecord.eq_of_isMarker {e : EventRecord} (h : e.isMarker = true) : ∃ n t, e = ⟨.eventsLost n, t⟩ := by
  obtain ⟨e, t⟩ := e
  cases e with
  | eventsLost n => exact ⟨n, t, rfl⟩
  | _ => cases h

/-- A post of an event keeps the shape of the queue (R146, R147). -/
theorem QueueFits.enqueue {q : List EventRecord} (h : QueueFits q) {e : EventRecord} (he : e.isMarker = false) :
    QueueFits (enqueue q e) := by
  have append : (∀ x ∈ q, x.isMarker = false) → q.length ≤ 15 → QueueFits (Machine.enqueue q e) := fun hq hlen => by
    rw [enqueue_of_no_marker hq]
    split
    · next hroom => exact (queueFits_concat q e).mpr ⟨hq, by simp only [he]; exact hroom, EventRecord.countFits_of_unmarked he⟩
    · exact (queueFits_concat q _).mpr ⟨hq, hlen, le_refl 1, by show 1 ≤ 65535; decide⟩
  rcases List.eq_nil_or_concat' q with rfl | ⟨l, y, rfl⟩
  · exact append (by simp) (by simp)
  · obtain ⟨hl, hlen, hfits⟩ := (queueFits_concat l y).mp h
    cases hy : y.isMarker with
    | true =>
      obtain ⟨n, t, rfl⟩ := EventRecord.eq_of_isMarker hy
      obtain ⟨hlow, hhigh⟩ : 1 ≤ n ∧ n ≤ 65535 := hfits
      rw [enqueue_of_marker]
      refine (queueFits_concat l _).mpr ⟨hl, hlen, ?_⟩
      show 1 ≤ min (n + 1) 65535 ∧ min (n + 1) 65535 ≤ 65535
      omega
    | false =>
      refine append (fun x hx => ?_) (by simpa [hy] using hlen)
      obtain hx | hx := List.mem_append.mp hx
      · exact hl x hx
      · exact List.mem_singleton.mp hx ▸ hy

theorem QueueFits.foldl_enqueue {es : List EventRecord} (hes : ∀ e ∈ es, e.isMarker = false) {q : List EventRecord}
    (h : QueueFits q) : QueueFits (es.foldl Machine.enqueue q) := by
  induction es generalizing q with
  | nil => exact h
  | cons e es ih =>
    obtain ⟨he, hes⟩ := List.forall_mem_cons.mp hes
    exact ih hes (h.enqueue he)

/-- A fetch takes records from the front, so the marker stays last (R150). -/
theorem QueueFits.drop {q : List EventRecord} (h : QueueFits q) (n : Nat) : QueueFits (q.drop n) := by
  obtain ⟨hlen, hunmarked, hcounts⟩ := h
  refine ⟨(((List.drop_sublist n q).filter _).length_le).trans hlen, fun e he => hunmarked e ?_,
    fun e he => hcounts e (List.mem_of_mem_drop he)⟩
  rw [List.dropLast_drop_eq_drop_dropLast] at he
  exact List.mem_of_mem_drop he

/-! ### The pool (R98) -/

/-- A sum over distinct indices, one of whose terms changes. -/
theorem sum_map_change {α : Type} {l : List α} (hl : l.Nodup) {a : α} (ha : a ∈ l) {f g : α → Nat}
    (h : ∀ k, k ≠ a → f k = g k) : (l.map f).sum + g a = (l.map g).sum + f a := by
  induction l with
  | nil => cases ha
  | cons b l ih =>
    obtain ⟨hb, hl⟩ := List.nodup_cons.mp hl
    simp only [List.map_cons, List.sum_cons]
    obtain rfl | ha := List.mem_cons.mp ha
    · have hrest : l.map f = l.map g := List.map_congr_left fun k hk => h k fun e => hb (e ▸ hk)
      rw [hrest]
      omega
    · have hne : b ≠ a := fun e => hb (e ▸ ha)
      have := ih hl ha
      have := h b hne
      omega

/-! ### What a change of the state keeps -/

/-- From `s` to `t` the waiting commands and the level of RESETn stand, and the limits of the ports, the shape of the event
queues, the total of the pool and the histories are kept, each whenever it held. -/
structure State.Keeps (s t : State) : Prop where
  pending : t.pending = s.pending
  resetLow : t.resetLow = s.resetLow
  ports : s.PortsFit → t.PortsFit
  events : s.EventsFit → t.EventsFit
  pool : s.PoolBalanced → t.PoolBalanced
  histories : s.HistoriesFit → t.HistoriesFit

namespace State.Keeps

variable {s t u : State} {p : Port} {a : AccIx}

theorem refl (s : State) : s.Keeps s := ⟨rfl, rfl, id, id, id, id⟩

theorem trans (h : s.Keeps t) (h' : t.Keeps u) : s.Keeps u :=
  ⟨h'.pending.trans h.pending, h'.resetLow.trans h.resetLow, h'.ports ∘ h.ports, h'.events ∘ h.events, h'.pool ∘ h.pool,
    h'.histories ∘ h.histories⟩

/-- A change of none of the tables concerned. -/
theorem of_tables (hpending : t.pending = s.pending) (hreset : t.resetLow = s.resetLow) (hports : t.ports = s.ports)
    (hevents : t.eventQueues = s.eventQueues) (haccs : t.accs = s.accs) (hpool : t.pool = s.pool) : s.Keeps t := by
  have hport : ∀ q, t.port q = s.port q := fun q => by rw [State.port, hports, State.port]
  have hevent : ∀ q, t.events q = s.events q := fun q => by rw [State.events, hevents, State.events]
  have hacc : ∀ k, t.acc k = s.acc k := fun k => by rw [State.acc, haccs, State.acc]
  have hdepth : t.depthOf = s.depthOf := funext fun k => by rw [State.depthOf, hacc, State.depthOf]
  refine ⟨hpending, hreset, fun h q => hport q ▸ h q, fun h q => hevent q ▸ h q, fun h => ?_,
    fun h k r hk => h k r (hacc k ▸ hk)⟩
  unfold State.PoolBalanced
  rw [hdepth, hpool]
  exact h

/-- A port record changed within its limits. -/
theorem setPort {r : PortRecord} (h : (s.port p).Fits → r.Fits) : s.Keeps (s.setPort p r) := by
  refine ⟨rfl, rfl, fun hs q => ?_, id, id, id⟩
  by_cases hq : q = p
  · subst hq
    rw [State.setPort_port_self]
    exact h (hs q)
  · rw [State.setPort_port_ne _ _ hq]
    exact hs q

/-- An event queue changed within its shape. -/
theorem setEvents {l : List EventRecord} (h : QueueFits (s.events p) → QueueFits l) : s.Keeps (s.setEvents p l) := by
  refine ⟨rfl, rfl, id, fun hs q => ?_, id, id⟩
  by_cases hq : q = p
  · subst hq
    rw [State.setEvents_events_self]
    exact h (hs q)
  · rw [State.setEvents_events_ne _ _ hq]
    exact hs q

theorem posted {es : Port → List EventRecord} (hes : Unmarked es) : s.Keeps (s.posted es) := by
  refine ⟨rfl, rfl, id, fun hs q => ?_, id, id⟩
  rw [State.posted_events]
  split
  · exact (hs q).foldl_enqueue (hes q)
  · exact hs q

/-- A record and the pool changed with their total as it was. -/
theorem setPool_setAcc {n : Nat} {x : Option Accumulator}
    (hpool : n + (x.map (·.depth)).getD 0 = s.pool + s.depthOf a)
    (hdepth : (x.map (·.depth)).getD 0 ≤ 32 ∨ (x.map (·.depth)).getD 0 = s.depthOf a)
    (hhistory : s.HistoriesFit → ∀ r, x = some r → r.HistoryFits) : s.Keeps ((s.setPool n).setAcc a x) := by
  have hself : ((s.setPool n).setAcc a x).depthOf a = (x.map (·.depth)).getD 0 := by
    unfold State.depthOf
    rw [State.setAcc_acc_self]
    cases x <;> rfl
  have hother : ∀ k, k ≠ a → ((s.setPool n).setAcc a x).depthOf k = s.depthOf k := fun k hk => by
    unfold State.depthOf
    rw [State.setAcc_acc_ne _ _ hk]
    rfl
  refine ⟨rfl, rfl, id, id, fun hs => ?_, fun hs k r hk => ?_⟩
  · obtain ⟨hsum, hmax⟩ := hs
    have hchange := sum_map_change (l := allAccs) (by decide) (mem_allAccs a) hother
    refine ⟨?_, fun k => ?_⟩
    · show _ + n = _
      omega
    · by_cases hk : k = a
      · subst hk
        have := hmax k
        simp only [Config.maxDepth] at this ⊢
        omega
      · exact hother k hk ▸ hmax k
  · by_cases hka : k = a
    · subst hka
      rw [State.setAcc_acc_self] at hk
      exact hhistory hs r hk
    · rw [State.setAcc_acc_ne _ _ hka] at hk
      exact hs k r hk

/-- A change of a record that leaves the pool as it was. -/
theorem setAcc {r r' : Accumulator} (ha : s.acc a = some r) (hdepth : r'.depth = r.depth)
    (hhistory : r.HistoryFits → r'.HistoryFits) : s.Keeps (s.setAcc a (some r')) := by
  have hd : s.depthOf a = r.depth := State.depthOf_of_acc ha
  exact setPool_setAcc (n := s.pool) (by simp [hd, hdepth]) (.inr (by simp [hd, hdepth]))
    fun hs r'' hr => Option.some.inj hr ▸ hhistory (hs a r ha)

/-! ### Responses, grants and the end of a session -/

theorem popped (s : State) (p : Port) : s.Keeps (s.popped p) := by
  refine setPort fun ⟨hrequests, hresponses, hkept⟩ => ⟨?_, hresponses, hkept⟩
  show (s.port p).requests.tail.length ≤ 4
  exact (List.length_tail ▸ Nat.sub_le _ _).trans hrequests

theorem responded (s : State) (p : Port) (tag : Byte) (st : Status) (payload : List Byte) :
    s.Keeps (s.responded p tag st payload) := by
  refine setPort fun ⟨hrequests, hresponses, hkept⟩ => ⟨hrequests, ?_, hkept⟩
  rw [List.length_append]
  split
  · next h0 => rw [h0] at hresponses ⊢; exact hresponses
  · simp only [List.length_singleton, Config.responseLimit] at hresponses ⊢
    omega

theorem answered (s : State) (p : Port) (f : Frame) (st : Status) (payload : List Byte) :
    s.Keeps (s.answered p f st payload) :=
  (popped s p).trans (responded _ p _ _ _)

theorem held (s : State) (p : Port) : s.Keeps (s.held p) := setPort fun h => h

theorem makeGrant (s : State) : s.Keeps s.makeGrant := by
  unfold State.makeGrant
  split
  · exact of_tables rfl rfl rfl rfl rfl rfl
  · exact refl s

end State.Keeps

end Sys2Proof.Machine
end

section
/-! PROOF. Every command keeps what `State.Keeps` names: effects, then the commands that are no requests; O2 and O6 to O9. -/

namespace Sys2Proof.Machine

/-! ### The state after the end of a session, reader by reader -/

section
variable (s : State) (p : Port) (cause : EndCause) (response : Option Response)

@[simp] theorem State.afterEnd_pending : (s.afterEnd p cause response).pending = s.pending := by
  simp only [State.afterEnd, State.posted, State.setPort, State.setSession]

@[simp] theorem State.afterEnd_resetLow : (s.afterEnd p cause response).resetLow = s.resetLow := by
  simp only [State.afterEnd, State.posted, State.setPort, State.setSession]

@[simp] theorem State.afterEnd_pool : (s.afterEnd p cause response).pool =
    s.pool + (allAccs.map fun a => if s.dropsAtEnd p a then s.depthOf a else 0).sum := by
  simp only [State.afterEnd]

@[simp] theorem State.afterEnd_acc (a : AccIx) :
    (s.afterEnd p cause response).acc a = (s.acc a).bind (·.afterEnd p) := by
  simp only [State.acc, State.afterEnd, entry_ofFn]

@[simp] theorem State.afterEnd_claims (a : AccIx) :
    (s.afterEnd p cause response).claims a = if s.dropsAtEnd p a then [] else s.claims a := by
  simp only [State.claims, State.afterEnd, entry_ofFn]

@[simp] theorem State.afterEnd_monitor (i : MonIx) : (s.afterEnd p cause response).monitor i =
    (s.monitor i).bind fun m =>
      if m.owner = p then none else some { m with armed := m.armed && !s.dropsAtEnd p m.acc } := by
  simp only [State.monitor, State.afterEnd, entry_map]

@[simp] theorem State.afterEnd_group (g : GroupIx) :
    (s.afterEnd p cause response).group g = (s.group g).disowned p := by
  simp only [State.group, State.afterEnd]
  exact entry_map _ _ _

@[simp] theorem State.afterEnd_notice (g : GroupIx) : (s.afterEnd p cause response).notice g = s.notice g := by
  simp only [State.notice, State.afterEnd, State.posted, State.setPort, State.setSession]

@[simp] theorem State.afterEnd_jobs (q : Port) : (s.afterEnd p cause response).jobs q = s.jobs q := by
  simp only [State.jobs, State.afterEnd, State.posted, State.setPort, State.setSession]

@[simp] theorem State.afterEnd_session_self :
    (s.afterEnd p cause response).session p = (s.session p).ended cause response := by
  simp only [State.session, State.afterEnd, State.posted, State.setPort, State.setSession, entry_withEntry_self,
    Session.ended]

theorem State.afterEnd_session_ne {q : Port} (h : q ≠ p) : (s.afterEnd p cause response).session q = s.session q := by
  simp only [State.session, State.afterEnd, State.posted, State.setPort, State.setSession, entry_withEntry_ne _ _ h]

@[simp] theorem State.afterEnd_port_self :
    (s.afterEnd p cause response).port p = { s.port p with holding := false } := by
  simp only [State.port, State.afterEnd, State.posted, State.setPort, State.setSession, entry_withEntry_self]

theorem State.afterEnd_port_ne {q : Port} (h : q ≠ p) : (s.afterEnd p cause response).port q = s.port q := by
  simp only [State.port, State.afterEnd, State.posted, State.setPort, State.setSession, entry_withEntry_ne _ _ h]

theorem State.endNotices_unmarked (a : AccIx) (r : Accumulator) : Unmarked (s.endNotices p a r) := by
  intro q e he
  unfold State.endNotices at he
  have told := fun (who : Port → Bool) (e' : Event) (h : (⟨e', s.tick⟩ : EventRecord).isMarker = false) =>
    unmarked_toEach who h q e
  dsimp only at he
  split at he
  · split at he
    · obtain he | he := List.mem_append.mp he
      · exact told _ _ rfl he
      · exact told _ _ rfl he
    · obtain he | he := List.mem_append.mp he
      · obtain he | he := List.mem_append.mp he
        · exact told _ _ rfl he
        · exact told _ _ rfl he
      · exact s.detachNotices_unmarked a _ _ q e he
  · exact told _ _ rfl he

/-- The events that the end of the session of `p` posts to a port. -/
def State.endEvents (q : Port) : List EventRecord :=
  allAccs.flatMap fun a => ((s.acc a).map fun r => s.endNotices p a r q).getD []

theorem State.endEvents_unmarked : Unmarked (s.endEvents p) := by
  intro q e he
  obtain ⟨a, -, ha⟩ := List.mem_flatMap.mp he
  cases hr : s.acc a with
  | none => simp [hr] at ha
  | some r =>
    simp only [hr, Option.map_some, Option.getD_some] at ha
    exact s.endNotices_unmarked p a r q e ha

theorem State.afterEnd_events (q : Port) : (s.afterEnd p cause response).events q =
    if q ≠ p ∧ (s.session q).isOpen = true then (s.endEvents p q).foldl enqueue (s.events q) else s.events q := by
  have hposted : (s.afterEnd p cause response).events q =
      ((s.setSession p ((s.session p).ended cause response)).posted (s.endEvents p)).events q := by
    simp only [State.events, State.afterEnd, State.posted, State.setPort, State.endEvents, Session.ended] <;> rfl
  rw [hposted, State.posted_events]
  by_cases hq : q = p
  · subst hq
    simp [Session.ended, Session.isOpen]
  · simp [hq, State.setSession_session_ne]

end

/-- A record that the end of a session leaves keeps its history (R24, R47). -/
theorem Accumulator.HistoryFits.afterEnd {r r' : Accumulator} {p : Port} (h : r.HistoryFits)
    (hr' : r.afterEnd p = some r') : r'.HistoryFits := by
  unfold Accumulator.afterEnd at hr'
  split at hr'
  · cases hr'
  · obtain rfl := Option.some.inj hr'
    exact h.setReader p fun e he => by cases he

theorem Accumulator.afterEnd_depth {r r' : Accumulator} {p : Port} (hr' : r.afterEnd p = some r') :
    r'.depth = r.depth := by
  unfold Accumulator.afterEnd at hr'
  split at hr'
  · cases hr'
  · exact Option.some.inj hr' ▸ rfl

theorem Accumulator.afterEnd_eq_none_iff (r : Accumulator) (p : Port) :
    r.afterEnd p = none ↔ r.owner = some p ∧ r.policies.orphanPolicy = .drop := by
  unfold Accumulator.afterEnd
  split <;> simp [*]

namespace State.Keeps

variable {s t : State} {p : Port}

/-- What a dropped record gives to the pool and what the records that stay hold is what they held before. -/
theorem depthOf_afterEnd (s : State) (p : Port) (cause : EndCause) (response : Option Response) (a : AccIx) :
    (s.afterEnd p cause response).depthOf a + (if s.dropsAtEnd p a then s.depthOf a else 0) = s.depthOf a := by
  unfold State.depthOf State.dropsAtEnd
  rw [State.afterEnd_acc]
  cases hr : s.acc a with
  | none => simp
  | some r =>
    cases hr' : r.afterEnd p with
    | none =>
      obtain ⟨howner, hdrop⟩ := (r.afterEnd_eq_none_iff p).mp hr'
      simp [hr', howner, hdrop]
    | some r' =>
      have hstays : (r.owner == some p && r.policies.orphanPolicy == .drop) = false := by
        by_contra hdrop
        have hnone := (r.afterEnd_eq_none_iff p).mpr (by simpa using hdrop)
        rw [hnone] at hr'
        cases hr'
      simp [hr', hstays, Accumulator.afterEnd_depth hr']

theorem afterEnd (s : State) (p : Port) (cause : EndCause) (response : Option Response) :
    s.Keeps (s.afterEnd p cause response) := by
  refine ⟨s.afterEnd_pending p _ _, s.afterEnd_resetLow p _ _, fun hs q => ?_, fun hs q => ?_, fun hs => ?_,
    fun hs a r hr => ?_⟩
  · by_cases hq : q = p
    · subst hq
      rw [State.afterEnd_port_self]
      exact hs q
    · rw [State.afterEnd_port_ne _ _ _ _ hq]
      exact hs q
  · rw [State.afterEnd_events]
    split
    · exact (hs q).foldl_enqueue (s.endEvents_unmarked p q)
    · exact hs q
  · obtain ⟨hsum, hmax⟩ := hs
    have hdepth := depthOf_afterEnd s p cause response
    refine ⟨?_, fun a => ?_⟩
    · have htotal : (allAccs.map fun a => (s.afterEnd p cause response).depthOf a).sum +
          (allAccs.map fun a => if s.dropsAtEnd p a then s.depthOf a else 0).sum = (allAccs.map s.depthOf).sum := by
        rw [← List.sum_map_add]
        exact congrArg List.sum (List.map_congr_left fun a _ => hdepth a)
      rw [State.afterEnd_pool]
      show (allAccs.map fun a => (s.afterEnd p cause response).depthOf a).sum + _ = _
      omega
    · have hle := hmax a
      have hparts := hdepth a
      omega
  · rw [State.afterEnd_acc] at hr
    obtain ⟨r₀, hr₀, hafter⟩ := Option.bind_eq_some_iff.mp hr
    exact (hs a r₀ hr₀).afterEnd hafter

theorem endSession (s : State) (p : Port) (cause : EndCause) (response : Option Response) :
    s.Keeps (s.endSession p cause response) :=
  State.endSession_eq_afterEnd s p cause response ▸ afterEnd s p cause response

theorem release {a : AccIx} {r : Accumulator} (ha : s.acc a = some r) (q : Port) (reason : GoneReason) :
    s.Keeps (s.release a r q reason) := by
  have hd : s.depthOf a = r.depth := State.depthOf_of_acc ha
  have hes : Unmarked fun x => toEach (fun x => r.offer.any (·.port == x)) ⟨.offerWithdrawn a, s.tick⟩ x ++
      toEach (fun x => decide (x ≠ q) && (r.isContributor x || (r.reader x).isSome)) ⟨.accGone a reason, s.tick⟩ x ++
      s.detachNotices a (fun _ => true) .released x :=
    ((unmarked_toEach _ rfl).append (unmarked_toEach _ rfl)).append (s.detachNotices_unmarked a _ _)
  rw [State.release_eq]
  refine (posted hes).trans (trans (t := ((s.posted _).setPool (s.pool + r.depth)).setAcc a none)
    (setPool_setAcc ?_ (.inl ?_) ?_) ?_)
  · show s.pool + r.depth + 0 = s.pool + s.depthOf a
    rw [hd, Nat.add_zero]
  · exact Nat.zero_le 32
  · exact fun _ r' hr' => by cases hr'
  · exact of_tables rfl rfl rfl rfl rfl rfl

/-- Every effect of a request keeps what `State.Keeps` names. -/
theorem of_effect (h : s.Effect p t) : s.Keeps t := by
  induction h with
  | nothing => exact refl s
  | @changed a r r' n es v ha hpool hdepth hhistory hstanding hes hv =>
    have hd : s.depthOf a = r.depth := State.depthOf_of_acc ha
    refine (setPool_setAcc (n := n) (a := a) (x := some r') ?_ ?_ ?_).trans
      ((posted hes).trans (of_tables rfl rfl rfl rfl rfl rfl))
    · show n + r'.depth = s.pool + s.depthOf a
      rw [hd, hpool]
    · show r'.depth ≤ 32 ∨ r'.depth = s.depthOf a
      rw [hd]
      exact hdepth.symm
    · exact fun hs r'' hr => Option.some.inj hr ▸ hhistory (hs a r ha)
  | @created a policies depth ha hpool hdepth =>
    have hd : s.depthOf a = 0 := by simp [State.depthOf, ha]
    refine setPool_setAcc ?_ (.inl hdepth) ?_
    · show s.pool - depth + depth = s.pool + s.depthOf a
      omega
    · exact fun _ r hr => Option.some.inj hr ▸ Accumulator.historyFits_created p policies depth
  | released ha => exact release ha p _
  | armed | freed | scheduled | queued | dequeued | marked => exact of_tables rfl rfl rfl rfl rfl rfl
  | @fetched n => exact setEvents fun h => h.drop n
  | granted _ ih => exact ih.trans (makeGrant _)
  | ended => exact endSession s p _ _
  | responded _ ih => exact ih.trans (responded _ p _ _ _)

/-! ### Requests -/

theorem takeOpen (s : State) (p : Port) (n : Nat) : s.Keeps (s.takeOpen p n).1 := by
  unfold State.takeOpen
  split
  · exact refl s
  · exact trans (t := s.updSession p (·.opened n)) (of_tables rfl rfl rfl rfl rfl rfl) (setPort fun h => h)

theorem reply (h : s.Keeps t) (p : Port) (tag : Byte) (r : Reply) : s.Keeps (t.reply p tag r) := by
  rw [State.reply_eq]
  exact h.trans (responded t p _ _ _)

theorem request (k : Kind) (p : Port) (s : State) : ∃ t, exec (k.command p) s = .next t ∧ s.Keeps t := by
  by_cases hk : k = .openSession
  · subst hk
    exact ⟨_, rfl, State.serve_induct (refl s) (fun f st _ => answered s p f st []) (fun _ _ _ => held s p)
      fun f x _ _ _ _ => (popped s p).trans ((takeOpen _ p x).reply p f.tag _)⟩
  · obtain ⟨α, operands, ready, take, hexec, hready, htake⟩ := k.effective hk
    refine ⟨_, hexec p s, State.serve_induct (refl s) (fun f st _ => answered s p f st []) (fun _ _ _ => held s p)
      fun f x _ _ hx hr => (popped s p).trans (of_effect (htake p _ _ _ x hx ?_))⟩
    rw [hready]
    exact hr

end State.Keeps

end Sys2Proof.Machine
end

section
/-! PROOF. Time: the tick, the lease that runs out, the boundary, its notice and the close claims (O12 to O16). -/

namespace Sys2Proof.Machine

/-! ### The tick (R76, R77, R86, R160) -/

/-- The state with these session records and every other item as it was. -/
def State.withSessions (s : State) (v : Vector Session 4) : State := { s with sessions := v }

/-- The state after a tick that is taken: the tick counter, and every group and every session timer with its tick. -/
def State.ticked (s : State) : State :=
  { s with refclk := 0, tick := s.tick + 1, groups := s.groups.map Group.onTick, sessions := s.sessions.map Session.onTick }

theorem State.foldl_groups_onTick (s : State) : allGroups.foldl (fun s g => s.setGroup g (s.group g).onTick) s =
    s.withGroups (s.groups.map Group.onTick) := by
  rw [← foldl_entries_all (by decide) mem_allGroups]
  exact List.foldl_hom s.withGroups fun _ _ => rfl

theorem State.foldl_sessions_onTick (s : State) :
    allPorts.foldl (fun s p => s.setSession p (s.session p).onTick) s = s.withSessions (s.sessions.map Session.onTick) := by
  rw [← foldl_entries_all (by decide) mem_allPorts]
  exact List.foldl_hom s.withSessions fun _ _ => rfl

theorem exec_tick (s : State) : exec .tick s = .next (if s.tickReady = true then s.ticked else s) := by
  show execTick s = _
  simp only [execTick, State.foldl_groups_onTick, State.foldl_sessions_onTick]
  rfl

@[simp] theorem State.ticked_group (s : State) (g : GroupIx) : s.ticked.group g = (s.group g).onTick := entry_map _ _ _

@[simp] theorem State.ticked_session (s : State) (p : Port) : s.ticked.session p = (s.session p).onTick := entry_map _ _ _

/-- Settles O12: the two passes of a tick as tables, read at each group and each session. -/
theorem tickCountsDown : Obligations.TickCountsDown := by
  intro s
  refine ⟨fun hready => ⟨s.ticked, ?_, rfl, s.ticked_group, s.ticked_session⟩, fun hwait => ?_⟩
  · rw [exec_tick, if_pos hready]
  · rw [exec_tick, if_neg (Bool.eq_false_iff.mp hwait)]

/-! ### The lease that runs out (R160) -/

theorem exec_leaseExpiry_of_not_owed {s : State} {p : Port} (h : (s.session p).tickOwed = false) :
    exec (.leaseExpiry p) s = .next s := by
  show execLeaseExpiry p s = _
  simp [execLeaseExpiry, h]

theorem exec_leaseExpiry_of_closed {s : State} {p : Port} (h : (s.session p).tickOwed = true)
    (hclosed : (s.session p).lease = none) :
    exec (.leaseExpiry p) s = .next (s.setSession p { s.session p with tickOwed := false }) := by
  show execLeaseExpiry p s = _
  simp [execLeaseExpiry, h, hclosed, State.updSession]

theorem exec_leaseExpiry_of_open {s : State} {p : Port} {l : Lease} (h : (s.session p).tickOwed = true)
    (hl : (s.session p).lease = some l) : exec (.leaseExpiry p) s = .next
      (if l.remaining ≤ 1 then s.afterEnd p .expiry none
       else s.setSession p { s.session p with
         lease := some { l with remaining := l.remaining - 1 }, tickOwed := false }) := by
  show execLeaseExpiry p s = _
  unfold execLeaseExpiry
  rw [if_pos h, hl]
  by_cases hlast : l.remaining ≤ 1
  · simp only [if_neg (Nat.not_lt.mpr hlast), if_pos hlast, State.endSession_eq_afterEnd]
  · simp only [if_pos (Nat.not_le.mp hlast), if_neg hlast]
    rfl

/-- Settles O16: the tick owed in OPEN, in CLOSED, and none owed. -/
theorem leaseExpiryEndsTheSession : Obligations.LeaseExpiryEndsTheSession := fun _ _ =>
  ⟨fun _ => exec_leaseExpiry_of_open, exec_leaseExpiry_of_closed, exec_leaseExpiry_of_not_owed⟩

/-! ### The boundary and its notice (R86, R88) -/

theorem exec_boundary (g : GroupIx) (s : State) : exec (.boundary g) s = .next
    (if (s.group g).boundaryDue = true then
      if (s.group g).running = true then
        (s.setGroup g { s.group g with boundaryCount := (s.group g).boundaryCount + 1
                                       countdown := some (s.group g).period
                                       boundaryDue := false }).setNotice g
          (some { group := g, count := (s.group g).boundaryCount + 1, tick := s.tick })
      else s.setGroup g { s.group g with boundaryDue := false }
    else s) := rfl

/-- Settles O13: the three branches of the boundary. -/
theorem boundaryReloadsAndHandsOver : Obligations.BoundaryReloadsAndHandsOver := by
  intro g s
  rw [exec_boundary]
  refine ⟨fun hdue hrunning => ?_, fun hdue hstopped => ?_, fun hnot => ?_⟩
  · rw [if_pos hdue, if_pos hrunning]
  · rw [if_pos hdue, if_neg (Bool.eq_false_iff.mp hstopped)]
  · rw [if_neg (Bool.eq_false_iff.mp hnot)]

/-- The state with these close claims held and every other item as it was. -/
def State.withClaims (s : State) (v : Vector (List Boundary) 32) : State := { s with claimLists := v }

/-- The close claims held after the boundary `b` has met the records of the state (R88). -/
def State.claimsWith (s : State) (b : Boundary) (a : AccIx) (l : List Boundary) : List Boundary :=
  if (s.acc a).any (fun r => r.policies.binding == .group b.group) then l ++ [b] else l

theorem State.setClaims_claims_eq (s : State) (a : AccIx) : s.setClaims a (s.claims a) = s := by
  unfold State.setClaims State.claims
  rw [withEntry_entry_self]

theorem State.formClaim_eq (b : Boundary) (s : State) (a : AccIx) :
    s.formClaim b a = s.setClaims a (s.claimsWith b a (s.claims a)) := by
  have same := s.setClaims_claims_eq a
  unfold State.formClaim State.claimsWith
  cases hr : s.acc a with
  | none => simpa using same.symm
  | some r =>
    by_cases hbound : r.policies.binding = .group b.group
    · simp [hbound]
    · simpa [hbound] using same.symm

/-- The close claims of a boundary, formed over all records, as one table (R88). -/
theorem State.foldl_formClaim (b : Boundary) (s : State) : allAccs.foldl (State.formClaim b) s =
    s.withClaims (Vector.ofFn fun a => s.claimsWith b a (s.claims a)) := by
  have htable := foldl_entries (f := s.claimsWith b) allAccs (by decide) s.claimLists
  simp only [mem_allAccs, if_true] at htable
  exact (List.foldl_hom s.withClaims fun v a => State.formClaim_eq b (s.withClaims v) a).trans
    (congrArg s.withClaims htable)

/-- Settles O14: the claims of a boundary as one table, and no boundary handed over. -/
theorem boundaryNoticeFormsClaims : Obligations.BoundaryNoticeFormsClaims := by
  intro g s
  refine ⟨fun b hb => ?_, fun hnone => ?_⟩
  · show execBoundaryNotice g s = _
    simp only [execBoundaryNotice, hb, State.foldl_formClaim]
    rfl
  · show execBoundaryNotice g s = _
    simp only [execBoundaryNotice, hnone]

/-! ### The close claim (R10, R89) -/

theorem exec_closeClaim_of_none {s : State} {a : AccIx} (h : s.claims a = []) : exec (.closeClaim a) s = .next s := by
  show execCloseClaim a s = _
  simp only [execCloseClaim, h]

section
variable {s : State} {a : AccIx} {b : Boundary} {rest : List Boundary}

theorem exec_closeClaim_of_free (h : s.claims a = b :: rest) (ha : s.acc a = none) :
    exec (.closeClaim a) s = .next (s.setClaims a rest) := by
  show execCloseClaim a s = _
  simp only [execCloseClaim, h, State.setClaims_acc, ha]

theorem exec_closeClaim_of_inUse {r : Accumulator} (h : s.claims a = b :: rest) (ha : s.acc a = some r) :
    exec (.closeClaim a) s = .next
      (if r.policies.binding ≠ .group b.group then s.setClaims a rest
       else if r.openSequence.toNat = 2 ^ 48 - 1 then s.setClaims a rest
       else (s.setClaims a rest).closeWindow a r (.scheduled b.group b.count) b.tick) := by
  show execCloseClaim a s = _
  simp only [execCloseClaim, h, State.setClaims_acc, ha, eq_lastSequence_iff]

end

/-- Settles O15: no claim held, a claim for a FREE record, and the tests of a claim in their order. -/
theorem closeClaimIsJudgedInOrder : Obligations.CloseClaimIsJudgedInOrder := fun _ _ =>
  ⟨exec_closeClaim_of_none, fun _ _ h => ⟨exec_closeClaim_of_free h, fun _ => exec_closeClaim_of_inUse h⟩⟩

end Sys2Proof.Machine
end

section
/-! PROOF. The transaction: its start, its bytes, what its bytes are judged to be, and its end (O17, O19 to O23). -/

namespace Sys2Proof.Machine

/-! ### A record written twice -/

theorem State.setPort_setPort (s : State) (p : Port) (x y : PortRecord) : (s.setPort p x).setPort p y = s.setPort p y := by
  unfold State.setPort
  rw [withEntry_withEntry]

/-! ### The start (R173, R188) -/

theorem exec_transactionStart_of_low {s : State} {p : Port} (h : (s.port p).selLow = true) :
    exec (.transactionStart p) s = .next s := congrArg _ (if_pos h)

theorem exec_transactionStart_of_reset {s : State} {p : Port} (h : (s.port p).selLow = false)
    (hlow : s.resetLow = true) :
    exec (.transactionStart p) s = .next (s.setPort p { s.port p with selLow := true }) :=
  congrArg _ ((if_neg (Bool.eq_false_iff.mp h)).trans (if_pos hlow))

theorem exec_transactionStart_of_high {s : State} {p : Port} (h : (s.port p).selLow = false)
    (hhigh : s.resetLow = false) :
    exec (.transactionStart p) s = .next (s.setPort p ((s.port p).begin (s.header p))) :=
  congrArg _ ((if_neg (Bool.eq_false_iff.mp h)).trans (if_neg (Bool.eq_false_iff.mp hhigh)))

/-- Settles O17: the three cases of SELn falling. -/
theorem transactionStartCopiesHeadResponse : Obligations.TransactionStartCopiesHeadResponse := fun _ _ =>
  ⟨exec_transactionStart_of_high, exec_transactionStart_of_reset, exec_transactionStart_of_low⟩

/-! ### One byte (R174, R175, R179, R184) -/

theorem exec_byteShifted_of_idle {s : State} {p : Port} (b : Byte) (h : (s.port p).framing = .idle) :
    exec (.byteShifted p b) s = .next s := congrArg _ (if_neg (by simp [h]))

theorem exec_byteShifted_of_selected {s : State} {p : Port} (b : Byte) (h : (s.port p).framing = .selected) :
    exec (.byteShifted p b) s = .next (s.setPort p ((s.port p).shiftByte b)) := congrArg _ (if_pos h)

namespace PortRecord

variable (r : PortRecord) (b : Byte)

theorem shiftByte_kept : (r.shiftByte b).kept = (r.kept ++ [b]).take (max 140 r.kept.length) := by
  show (if r.kept.length < 140 then r.kept ++ [b] else r.kept) = _
  split
  · next hroom => exact (List.take_of_length_le (by simp; omega)).symm
  · next hfull => rw [show max 140 r.kept.length = r.kept.length by omega, List.take_left]

/-- A byte changes the items of the exchange alone. -/
theorem shiftByte_eq : r.shiftByte b = { r with
    sdo := (r.shiftByte b).sdo, received := r.received + 1, kept := (r.kept ++ [b]).take (max 140 r.kept.length)
    refused := (r.shiftByte b).refused, responses := (r.shiftByte b).responses, delivery := (r.shiftByte b).delivery } := by
  rw [← r.shiftByte_kept b]
  rfl

variable {r}

/-- The first byte is the header: it clears REFUSED when it showed it, and delivers nothing (R173, R179). -/
theorem shiftByte_first (h : r.received = 0) : (r.shiftByte b).sdo = some r.header ∧
    (r.shiftByte b).refused = (r.refused && !r.header.getLsbD 3) ∧
    (r.shiftByte b).responses = r.responses ∧ (r.shiftByte b).delivery = r.delivery := by
  simp [shiftByte, outByte, deliversNow, showsRefused, h]

theorem shiftByte_refused (h : 0 < r.received) : (r.shiftByte b).refused = r.refused := by
  simp [shiftByte, Nat.ne_of_gt h]

/-- With no delivery copy a length of 0 and filler are shifted out (R174). -/
theorem shiftByte_of_no_delivery (h : 0 < r.received) (hd : r.delivery = none) :
    (r.shiftByte b).sdo = some (if r.received = 1 then 0x00 else 0xFF) ∧
    (r.shiftByte b).responses = r.responses ∧ (r.shiftByte b).delivery = none := by
  simp [shiftByte, outByte, deliversNow, hd, Nat.ne_of_gt h]

/-- With a delivery copy its next byte is shifted out, and the last of them delivers the response (R174, R184). -/
theorem shiftByte_of_delivery (h : 0 < r.received) {d : Delivery} (hd : r.delivery = some d) :
    (r.shiftByte b).sdo = some (d.response.frame.getD d.shifted 0xFF) ∧
    (r.shiftByte b).responses =
      (if d.queued = true ∧ d.shifted + 1 = d.response.frame.length then r.responses.tail else r.responses) ∧
    (r.shiftByte b).delivery = some d.advance := by
  simp [shiftByte, outByte, deliversNow, hd, Nat.ne_of_gt h]

end PortRecord

/-- Settles O19: the byte outside a transaction; the header byte; and a later byte without and with a delivery copy. -/
theorem byteShiftedExchangesOneByte : Obligations.ByteShiftedExchangesOneByte := by
  intro p b s
  refine ⟨exec_byteShifted_of_idle b, fun hsel => ⟨_, exec_byteShifted_of_selected b hsel, ?_⟩⟩
  rw [State.setPort_port_self]
  refine ⟨congrArg (s.setPort p) ((s.port p).shiftByte_eq b), PortRecord.shiftByte_first b, fun hlater =>
    ⟨PortRecord.shiftByte_refused b hlater, PortRecord.shiftByte_of_no_delivery b hlater,
      fun d hd => PortRecord.shiftByte_of_delivery b hlater hd⟩⟩

/-! ### Delivery (R174, R184) -/

/-- The first `n` bytes of a run that is followed by filler. -/
def filled (l : List Byte) (n : Nat) : List Byte := (l ++ List.replicate n 0xFF#8).take n

theorem filled_cons (x : Byte) (l : List Byte) (n : Nat) : filled (x :: l) (n + 1) = x :: filled l n := by
  simp [filled, List.take_append, List.take_replicate]
  omega

theorem filled_nil (n : Nat) : filled [] (n + 1) = 0xFF#8 :: filled [] n := by
  simp [filled, List.replicate_succ]

theorem filled_drop (l : List Byte) (k n : Nat) :
    filled (l.drop k) (n + 1) = l.getD k 0xFF :: filled (l.drop (k + 1)) n := by
  by_cases hk : k < l.length
  · rw [List.drop_eq_getElem_cons hk, filled_cons]
    simp [hk]
  · rw [List.drop_eq_nil_of_le (by omega), List.drop_eq_nil_of_le (by omega), filled_nil]
    simp [hk]

/-- The delivery copy of `x` after `k` bytes, of which the port's queue still holds the response until the last. -/
def Response.copied (x : Response) (k : Nat) : Delivery :=
  { response := x, shifted := min k x.frame.length, queued := decide (k < x.frame.length) }

theorem Response.copied_advance (x : Response) (k : Nat) : (x.copied k).advance = x.copied (k + 1) := by
  unfold Delivery.advance Response.copied
  by_cases h : k + 1 < x.frame.length
  · have hk : k < x.frame.length := by omega
    simp [h, hk, Nat.min_eq_left (Nat.le_of_lt hk)]
  · have hmin : min (k + 1) x.frame.length = x.frame.length := by omega
    have hlast : ¬ min k x.frame.length + 1 < x.frame.length := by omega
    simp [h, hmin, hlast]

/-- From the `k`-th byte of a response on, the rest of it and filler are shifted out, and the response leaves the queue
with its last byte. -/
theorem PortRecord.exchange_of_copied (x : Response) (sdi : List Byte) {r : PortRecord} {k : Nat} (h : 0 < r.received)
    (hd : r.delivery = some (x.copied k)) :
    (r.exchange sdi).2 = (filled (x.frame.drop k) sdi.length).map some ∧
    (r.exchange sdi).1.responses =
      if k < x.frame.length ∧ x.frame.length ≤ k + sdi.length then r.responses.tail else r.responses := by
  induction sdi generalizing r k with
  | nil =>
    refine ⟨rfl, (if_neg ?_).symm⟩
    simp only [List.length_nil]
    omega
  | cons b sdi ih =>
    obtain ⟨hsdo, hresponses, hdelivery⟩ := PortRecord.shiftByte_of_delivery b h hd
    rw [Response.copied_advance] at hdelivery
    obtain ⟨hbytes, hleft⟩ := ih (r := r.shiftByte b) (Nat.succ_pos _) hdelivery
    have hgetD : x.frame.getD (x.copied k).shifted 0xFF = x.frame.getD k 0xFF := by
      by_cases hk : k < x.frame.length
      · rw [Response.copied, Nat.min_eq_left (Nat.le_of_lt hk)]
      · rw [Response.copied, Nat.min_eq_right (Nat.not_lt.mp hk)]
        simp [hk]
    refine ⟨?_, ?_⟩
    · rw [PortRecord.exchange, List.length_cons, filled_drop, List.map_cons, hsdo, hbytes, ← hgetD]
      rfl
    · rw [PortRecord.exchange, hleft, hresponses, List.length_cons]
      simp only [Response.copied, decide_eq_true_eq]
      by_cases hlast : k + 1 = x.frame.length
      · have hnow : k < x.frame.length ∧ min k x.frame.length + 1 = x.frame.length := by omega
        rw [if_neg (by omega), if_pos hnow, if_pos (by omega)]
      · have hlater : ¬ (k < x.frame.length ∧ min k x.frame.length + 1 = x.frame.length) := by omega
        rw [if_neg hlater]
        exact if_congr (by omega) rfl rfl

theorem Response.frame_length (x : Response) : x.frame.length = x.payload.length + 4 := by simp [Response.frame]

/-- Settles O20: the header's byte, then the response from its first byte on. -/
theorem deliveryIsWholeAndOnce : Obligations.DeliveryIsWholeAndOnce := by
  refine ⟨rfl, fun r header x rest sdi hresponses hlength => ?_⟩
  have hcopy : (r.begin header).delivery = some (x.copied 0) := by
    simp [PortRecord.begin, hresponses, Response.copied, x.frame_length]
  have hqueue : (r.begin header).responses = x :: rest := hresponses
  cases sdi with
  | nil =>
    refine ⟨rfl, ?_⟩
    rw [if_pos (by simp)]
    exact hqueue
  | cons b sdi =>
    obtain ⟨hsdo, -, hkept, hdelivery⟩ := PortRecord.shiftByte_first (r := r.begin header) b rfl
    obtain ⟨hbytes, hleft⟩ := PortRecord.exchange_of_copied x sdi (r := (r.begin header).shiftByte b) (Nat.succ_pos _)
      (hdelivery.trans hcopy)
    refine ⟨?_, ?_⟩
    · have hheader : (r.begin header).header = header := rfl
      rw [PortRecord.exchange, hsdo, hbytes, hheader, ← List.map_cons, List.drop_zero, ← filled_cons]
      rfl
    · rw [PortRecord.exchange, hleft, hkept, hqueue, x.frame_length, List.length_cons]
      by_cases hshort : sdi.length < x.payload.length + 4
      · rw [if_neg (by omega), if_pos (by omega)]
      · rw [if_pos (by omega), if_neg (by omega)]
        rfl

end Sys2Proof.Machine
end

section
/-! PROOF. What the bytes of a transaction are, its end, NULL and RESYNC, and the hand-overs of a session's end (O21 to O24,
O31). -/

namespace Sys2Proof.Machine

/-! ### The CRC (R176) -/

theorem crc8_concat (l : List Byte) (b : Byte) : crc8 (l ++ [b]) = crcByte (crc8 l) b := by
  simp [crc8, List.foldl_append]

theorem crcByte_eq (c b : Byte) : crcByte c b = crcShift^[8] (c ^^^ b) := rfl

/-- The bit that leaves the top place is bit 7. -/
theorem crcShift_eq : crcShift = fun c => if c.getLsbD 7 then (c <<< 1) ^^^ 0x07 else c <<< 1 := by
  funext c
  simp [crcShift, BitVec.msb_eq_getLsbD_last]

/-! ### Frames (R175, R177) -/

/-- A frame's run of bytes up to its CRC: kind, tag, length and payload (Table 10-2). -/
def frameRun (kind tag : Byte) (payload : List Byte) : List Byte := kind :: tag :: byte payload.length :: payload

/-- What a frame is judged to be by its kind and length (R177). -/
def frameJudged (kind tag : Byte) (payload : List Byte) : Judged :=
  if kind = 0x00 ∧ payload = [] then .null
  else if kind = 0xFF ∧ payload = [] then .resync
  else .offered { kind := kind, tag := tag, payload := payload }

/-- The length byte is 0 exactly when the payload is empty. -/
theorem byte_length_eq_zero {payload : List Byte} (h : payload.length ≤ 136) :
    byte payload.length = 0x00#8 ↔ payload = [] := by
  rw [← BitVec.toNat_inj, byte_toNat (by omega)]
  simp

/-- Kept bytes that begin with a whole frame are judged as that frame, whatever follows it. -/
theorem judgeBytes_frame {n : Nat} (hn : n ≠ 0) (kind tag : Byte) {payload : List Byte} (filler : List Byte)
    (h : payload.length ≤ 136) :
    judgeBytes n (frameRun kind tag payload ++ crc8 (frameRun kind tag payload) :: filler) = frameJudged kind tag payload := by
  have hlen : (byte payload.length).toNat = payload.length := byte_toNat (by omega)
  simp only [judgeBytes, if_neg hn, frameRun, List.cons_append, hlen, List.take_left, List.drop_left, List.head?_cons,
    byte_length_eq_zero h]
  rw [if_neg (by simp; omega), if_neg (by simp)]
  rfl

/-- Bytes that are not dropped begin with a whole frame. -/
theorem exists_frame_of_judgeBytes {n : Nat} (hn : n ≠ 0) {kept : List Byte} (h : judgeBytes n kept ≠ .dropped) :
    ∃ kind tag payload filler, payload.length ≤ 136 ∧
      kept = frameRun kind tag payload ++ crc8 (frameRun kind tag payload) :: filler := by
  unfold judgeBytes at h
  rw [if_neg hn] at h
  split at h
  · next kind tag len rest =>
    split at h
    · exact absurd rfl h
    · next hroom =>
      split at h
      · exact absurd rfl h
      · next hcrc =>
        obtain ⟨hmax, hrest⟩ : len.toNat ≤ 136 ∧ len.toNat + 1 ≤ rest.length := by simpa using hroom
        have hpayload : (rest.take len.toNat).length = len.toNat := by simp; omega
        have hrun : frameRun kind tag (rest.take len.toNat) = kind :: tag :: len :: rest.take len.toNat := by
          simp [frameRun, byte, Nat.min_eq_left (show len.toNat ≤ rest.length by omega)]
        obtain ⟨tail, htail⟩ := List.head?_eq_some_iff.mp (not_not.mp hcrc)
        refine ⟨kind, tag, rest.take len.toNat, tail, hpayload.symm ▸ hmax, ?_⟩
        rw [hrun, ← htail]
        simp
  · exact absurd rfl h

/-- Settles O21: the CRC's recursion, bytes that are no frame, and the frame among the bytes kept. -/
theorem sentFrameIsReadBack : Obligations.SentFrameIsReadBack := by
  refine ⟨rfl, fun l b => ?_, fun _ => rfl, fun n kept hn hno => ?_, fun kind tag payload filler hlength => ?_⟩
  · rw [crc8_concat, crcByte_eq, crcShift_eq]
  · by_contra hframe
    obtain ⟨kind, tag, payload, filler, hlength, rfl⟩ := exists_frame_of_judgeBytes hn hframe
    exact hno kind tag payload filler hlength rfl
  · have hkept : (frameRun kind tag payload ++ [crc8 (frameRun kind tag payload)] ++ filler).take 140 =
        frameRun kind tag payload ++ crc8 (frameRun kind tag payload) :: filler.take (136 - payload.length) := by
      have hrun : (frameRun kind tag payload ++ [crc8 (frameRun kind tag payload)]).length = payload.length + 4 := by
        simp [frameRun]
      rw [List.take_append, List.take_of_length_le (by omega), hrun, List.append_assoc,
        show 140 - (payload.length + 4) = 136 - payload.length by omega]
      rfl
    exact (congrArg (judgeBytes _) hkept).trans (judgeBytes_frame (by simp) kind tag _ hlength)

/-! ### The end of a transaction (R159, R177 to R180) -/

/-- The port record when SELn has risen on a transaction. -/
def PortRecord.idled (r : PortRecord) : PortRecord :=
  { r with selLow := false, framing := .idle, sdo := none, delivery := none }

/-- The session record after a lease refresh (R159). -/
def Session.refreshed (r : Session) : Session := { r with lease := r.lease.map fun l => { l with remaining := l.length } }

theorem State.deselect_refresh (s : State) (p : Port) : (s.deselect p).refresh p =
    (s.setPort p (s.port p).idled).setSession p (s.session p).refreshed := rfl

theorem State.deselect_refuseFrame (s : State) (p : Port) (c : RefusalCause) : (s.deselect p).refuseFrame p c =
    s.setPort p { (s.port p).idled with refused := true, cause := c } := by
  show (s.setPort p _).setPort p { (s.setPort p _).port p with refused := true, cause := c } = _
  rw [State.setPort_port_self, State.setPort_setPort]
  rfl

theorem PortRecord.hasRoom_iff (r : PortRecord) :
    r.hasRoom = true ↔ r.requests.length < 4 ∧ r.reservations + r.responses.length < 8 := by
  rw [PortRecord.hasRoom, Bool.and_eq_true, decide_eq_true_iff, decide_eq_true_iff]
  exact Iff.rfl

/-- A frame offered as its transaction ends (R178): the writes of the port are one, beside that of the session. -/
theorem State.deselect_offerFrame (s : State) (p : Port) (f : Frame) : ((s.deselect p).refresh p).offerFrame p f =
    if (s.port p).requests.length < 4 ∧ (s.port p).reservations + (s.port p).responses.length < 8 then
      (s.setPort p { (s.port p).idled with
        requests := (s.port p).requests ++ [f]
        reservations := (s.port p).reservations + 1 }).setSession p (s.session p).refreshed
    else (s.setPort p { (s.port p).idled with refused := true, cause := .queueFull }).setSession p
      (s.session p).refreshed := by
  have hport : ((s.setPort p (s.port p).idled).setSession p (s.session p).refreshed).port p = (s.port p).idled :=
    s.setPort_port_self p _
  have hwrite : ∀ r, ((s.setPort p (s.port p).idled).setSession p (s.session p).refreshed).setPort p r =
      (s.setPort p r).setSession p (s.session p).refreshed := fun r =>
    congrArg (fun t : State => t.setSession p (s.session p).refreshed) (s.setPort_setPort p (s.port p).idled r)
  rw [State.deselect_refresh]
  unfold State.offerFrame State.refuseFrame State.updPort
  rw [hport]
  simp only [PortRecord.hasRoom_iff, hwrite]
  rfl

section
variable {s : State} {p : Port}

theorem exec_transactionEnd_of_idle (h : (s.port p).framing = .idle) :
    exec (.transactionEnd p) s = .next (s.setPort p { s.port p with selLow := false }) :=
  congrArg _ (if_neg (by simp [h]))

/-- SELn rises on a transaction: what is done of each judgement. -/
theorem exec_transactionEnd_of_selected (h : (s.port p).framing = .selected) : exec (.transactionEnd p) s = .next
    (match s.judged p with
      | .nothing => s.deselect p
      | .dropped => (s.deselect p).refuseFrame p .frame
      | .null => (s.deselect p).refresh p
      | .resync => (s.deselect p).actResync p
      | .offered f => ((s.deselect p).refresh p).offerFrame p f) := congrArg _ (if_pos h)

theorem exec_null_of_judged (h : (s.port p).framing = .selected) (hjudged : s.judged p = .null) :
    exec (.null p) s = .next ((s.setPort p (s.port p).idled).setSession p (s.session p).refreshed) :=
  congrArg _ ((if_pos ⟨h, hjudged⟩).trans (s.deselect_refresh p))

theorem exec_null_of_other (h : (s.port p).framing = .idle ∨ s.judged p ≠ .null) : exec (.null p) s = .next s := by
  refine congrArg _ (if_neg fun ⟨hsel, hjudged⟩ => ?_)
  obtain hidle | hother := h
  · simp [hsel] at hidle
  · exact hother hjudged

theorem exec_resync_of_other (h : (s.port p).framing = .idle ∨ s.judged p ≠ .resync) : exec (.resync p) s = .next s := by
  refine congrArg _ (if_neg fun ⟨hsel, hjudged⟩ => ?_)
  obtain hidle | hother := h
  · simp [hsel] at hidle
  · exact hother hjudged

theorem exec_resync_of_judged (h : (s.port p).framing = .selected) (hjudged : s.judged p = .resync) :
    exec (.resync p) s = .next ((s.deselect p).actResync p) := congrArg _ (if_pos ⟨h, hjudged⟩)

/-- A RESYNC in OPEN ends the session (R163). -/
theorem exec_resync_of_open (h : (s.port p).framing = .selected) (hjudged : s.judged p = .resync)
    (hopen : (s.session p).isOpen = true) :
    exec (.resync p) s = .next ((s.setPort p (s.port p).idled).afterEnd p .resync none) := by
  have hact : (s.deselect p).actResync p = (s.deselect p).endSession p .resync none := if_pos hopen
  rw [exec_resync_of_judged h hjudged, hact, State.endSession_eq_afterEnd]
  rfl

/-- A RESYNC in CLOSED flushes the port (R180). -/
theorem exec_resync_of_closed (h : (s.port p).framing = .selected) (hjudged : s.judged p = .resync)
    (hclosed : (s.session p).isOpen = false) :
    exec (.resync p) s = .next ((s.setPort p { (s.port p).idled with
      requests := [], holding := false, reservations := 0, responses := [] }).setSession p
        { s.session p with closeResponse := none }) := by
  have hact : (s.deselect p).actResync p = (s.deselect p).flushPort p := if_neg (Bool.eq_false_iff.mp hclosed)
  have hport : (s.deselect p).port p = (s.port p).idled := s.setPort_port_self p _
  rw [exec_resync_of_judged h hjudged, hact]
  unfold State.flushPort State.updPort
  rw [hport]
  exact congrArg (fun t : State => Host.Outcome.next (t.setSession p { s.session p with closeResponse := none }))
    (s.setPort_setPort p (s.port p).idled _)

end

/-- Settles O22: an IDLE port, and one judgement after the other. -/
theorem transactionEndJudgesTheFrame : Obligations.TransactionEndJudgesTheFrame := by
  refine fun p s => ⟨exec_transactionEnd_of_idle, fun hsel => ?_⟩
  rw [exec_transactionEnd_of_selected hsel]
  refine ⟨fun hj => ?nothing, fun hj => ?dropped, fun hj => ?null, fun hj => ?resync, fun f hj => ?offered⟩
  case nothing => rw [hj]; rfl
  case dropped => rw [hj]; exact congrArg _ (s.deselect_refuseFrame p .frame)
  case null => rw [hj]; exact congrArg _ (s.deselect_refresh p)
  case resync => rw [hj, exec_resync_of_judged hsel hj]
  case offered => rw [hj]; exact congrArg _ (s.deselect_offerFrame p f)

/-- Settles O23: NULL; RESYNC in OPEN and in CLOSED; and the two steps where they do not occur. -/
theorem nullAndResyncActAtOnce : Obligations.NullAndResyncActAtOnce := fun _ _ =>
  ⟨exec_null_of_judged, exec_resync_of_open, exec_resync_of_closed, exec_null_of_other, exec_resync_of_other⟩

/-! ### A request of undefined kind (R182) -/

theorem mem_allKinds (k : Kind) : k ∈ allKinds := by cases k <;> decide

theorem knownKind_iff (b : Byte) : knownKind b = true ↔ ∃ k : Kind, b = k.code := by
  simp only [knownKind, List.any_eq_true, beq_iff_eq]
  exact ⟨fun ⟨k, _, hk⟩ => ⟨k, hk.symm⟩, fun ⟨k, hk⟩ => ⟨k, mem_allKinds k, hk.symm⟩⟩

theorem exec_badKind_of_empty {s : State} {p : Port} (h : (s.port p).requests = []) : exec (.badKind p) s = .next s := by
  show execBadKind p s = _
  simp only [execBadKind, h]

theorem exec_badKind_of_head {s : State} {p : Port} {f : Frame} (h : (s.port p).requests.head? = some f) :
    exec (.badKind p) s = .next (if knownKind f.kind = true then s else s.answered p f (badKindStatus f) []) := by
  obtain ⟨rest, hrest⟩ := List.head?_eq_some_iff.mp h
  show execBadKind p s = _
  simp only [execBadKind, hrest, State.refuseHead_eq]

/-- Settles O24: no request, an undefined kind and a known kind at the head. -/
theorem undefinedKindIsAnswered : Obligations.UndefinedKindIsAnswered := by
  refine ⟨rfl, fun p s => exec_badKind_of_empty, fun p s f hf => ⟨fun hundefined => ?_, fun k hk => ?_⟩⟩
  · have hunknown : ¬ knownKind f.kind = true := fun h =>
      have ⟨k, hk⟩ := (knownKind_iff _).mp h
      hundefined k hk
    rw [exec_badKind_of_head hf, if_neg hunknown]
    rfl
  · rw [exec_badKind_of_head hf, if_pos ((knownKind_iff _).mpr ⟨k, hk⟩)]

/-! ### The hand-overs of a session's end (R72, R153, R167, R168) -/

section
variable {s : State} {p : Port}

theorem exec_engineSessionEnd_of_owed (h : (s.session p).atEngine = true) : exec (.engineSessionEnd p) s = .next
    (((s.setSession p { s.session p with atEngine := false }).setJobs p []).setRunning
      (s.running.map fun j => if j.port = p then { j with mark := .discard } else j)) := congrArg _ (if_pos h)

theorem exec_engineSessionEnd_of_not_owed (h : (s.session p).atEngine = false) :
    exec (.engineSessionEnd p) s = .next s := congrArg _ (if_neg (Bool.eq_false_iff.mp h))

theorem exec_eventQueueSessionEnd_of_owed (h : (s.session p).atEvents = true) :
    exec (.eventQueueSessionEnd p) s = .next ((s.setSession p { s.session p with atEvents := false }).setEvents p []) :=
  congrArg _ (if_pos h)

theorem exec_eventQueueSessionEnd_of_not_owed (h : (s.session p).atEvents = false) :
    exec (.eventQueueSessionEnd p) s = .next s := congrArg _ (if_neg (Bool.eq_false_iff.mp h))

theorem exec_portSessionEnd_of_owed (h : (s.session p).atPort = true) : exec (.portSessionEnd p) s = .next
    ((s.setSession p { s.session p with atPort := false, closeResponse := none }).setPort p { s.port p with
      requests := [], holding := false, reservations := 0, responses := (s.session p).closeResponse.toList
      delivery := (s.port p).delivery.map fun d => { d with queued := false }
      expired := (s.port p).expired || decide ((s.session p).lastEnd = .expiry) }) := congrArg _ (if_pos h)

theorem exec_portSessionEnd_of_not_owed (h : (s.session p).atPort = false) :
    exec (.portSessionEnd p) s = .next s := congrArg _ (if_neg (Bool.eq_false_iff.mp h))

end

/-- Settles O31: each hand-over, owed and not owed. -/
theorem handOversEmptyTheQueues : Obligations.HandOversEmptyTheQueues := fun _ _ =>
  ⟨exec_engineSessionEnd_of_owed, exec_eventQueueSessionEnd_of_owed, exec_portSessionEnd_of_owed,
    exec_engineSessionEnd_of_not_owed, exec_eventQueueSessionEnd_of_not_owed, exec_portSessionEnd_of_not_owed⟩

end Sys2Proof.Machine
end

section
/-! PROOF. The engine: the arbiter's grant, the job requests, a job's completion and JOB_CANCEL (O41 to O44, O47). -/

namespace Sys2Proof.Machine

/-! ### Job queues written and responses formed -/

theorem State.setJobs_setJobs (s : State) (p : Port) (l l' : List Job) : (s.setJobs p l).setJobs p l' = s.setJobs p l' := by
  unfold State.setJobs
  rw [withEntry_withEntry]

theorem State.setJobs_of_jobs {s : State} {p : Port} {l : List Job} (h : s.jobs p = l) : s.setJobs p l = s := by
  unfold State.setJobs
  rw [← h, State.jobs, withEntry_entry_self]

/-- A response formed for another request and the head request's leaving its queue do not meet. -/
theorem State.popped_responded (s : State) (p : Port) (tag : Byte) (st : Status) (payload : List Byte) :
    (s.popped p).responded p tag st payload = (s.responded p tag st payload).popped p := by
  unfold State.responded State.popped
  simp only [State.setPort_port_self, State.setPort_setPort]

/-! ### The grant (R53) -/

/-- The rotation that begins after a grant pointer and ends with it. -/
theorem rotation_eq (q : Port) :
    [q + 1, q + 2, q + 3, q] = allPorts.map (q + 1 + ·) := by revert q; decide

theorem State.nextGrant_of_first {s : State} (k : Fin 4) (h : s.jobs (s.grantPointer + 1 + k) ≠ [])
    (hbelow : ∀ i : Fin 4, i < k → s.jobs (s.grantPointer + 1 + i) = []) :
    s.nextGrant = some (s.grantPointer + 1 + k) := by
  unfold State.nextGrant
  rw [rotation_eq, List.find?_map,
    find?_of_least (a := k) (by decide) (mem_allPorts k) (by simpa using h) fun i hi => by simpa using hbelow i hi]
  rfl

theorem State.nextGrant_of_empty {s : State} (h : ∀ p, s.jobs p = []) : s.nextGrant = none :=
  List.find?_eq_none.mpr fun p _ => by simp [h p]

theorem State.makeGrant_of_first {s : State} {p : Port} {j : Job} {rest : List Job} (hrun : s.running = none)
    (hnext : s.nextGrant = some p) (hp : s.jobs p = j :: rest) :
    s.makeGrant = ((s.setJobs p rest).setRunning (some j)).setPointer p := by
  simp only [State.makeGrant, hrun, hnext, hp, List.tail_cons, List.head?_cons]

theorem State.makeGrant_of_none {s : State} (h : s.running ≠ none ∨ ∀ p, s.jobs p = []) : s.makeGrant = s := by
  unfold State.makeGrant
  split
  · next p hrun hnext =>
    obtain hbusy | hempty := h
    · exact absurd hrun hbusy
    · rw [State.nextGrant_of_empty hempty] at hnext
      cases hnext
  · rfl

theorem exec_grant (s : State) : exec .grant s = .next s.makeGrant := rfl

/-- Settles O42: the first queue of the rotation that holds a job, and no grant. -/
theorem grantRotates : Obligations.GrantRotates := by
  intro s
  refine ⟨fun k j rest hrun hk hbelow => ?_, fun hnone => ?_⟩
  · have hnext := State.nextGrant_of_first k (by simp [hk]) hbelow
    rw [exec_grant, State.makeGrant_of_first hrun hnext hk]
  · rw [exec_grant, State.makeGrant_of_none hnone]

/-! ### Job requests (R49, R52, R53) -/

theorem State.engineFree_iff (s : State) : s.engineFree = true ↔ s.running = none ∧ ∀ p, s.jobs p = [] := by
  simp [State.engineFree, mem_allPorts]

/-- A job that joins an engine with nothing queued and nothing running is the one granted, at once (R53). -/
theorem State.makeGrant_of_only {s : State} {p : Port} {j : Job} (hrun : s.running = none) (hempty : ∀ q, s.jobs q = []) :
    (s.setJobs p [j]).makeGrant = (s.setRunning (some j)).setPointer p := by
  have hself : (s.setJobs p [j]).jobs p = [j] := s.setJobs_jobs_self p _
  have hplace : s.grantPointer + 1 + (p - (s.grantPointer + 1)) = p := add_sub_cancel _ _
  have hnext : (s.setJobs p [j]).nextGrant = some (s.grantPointer + 1 + (p - (s.grantPointer + 1))) := by
    refine State.nextGrant_of_first (p - (s.grantPointer + 1)) ?_ fun i hi => ?_
    · rw [State.setJobs_grantPointer, hplace, hself]
      exact List.cons_ne_nil _ _
    · have hne : s.grantPointer + 1 + i ≠ p := fun e => by
        rw [← e, add_sub_cancel_left] at hi
        exact absurd hi (lt_irrefl i)
      rw [State.setJobs_grantPointer, State.setJobs_jobs_ne _ _ hne]
      exact hempty _
  rw [hplace] at hnext
  rw [State.makeGrant_of_first (s := s.setJobs p [j]) hrun hnext hself, State.setJobs_setJobs, State.setJobs_of_jobs (hempty p)]

theorem queueTakes_iff (p : Port) (s : State) (w : Work) : queueTakes p s w = true ↔ ¬ 4 ≤ (s.jobs p).length :=
  decide_eq_true_iff.trans Nat.not_le.symm

/-- A job request that passes the decoder's checks: held at a full queue, and else its job appended or granted. -/
theorem State.serve_job {s : State} {p : Port} {k : Kind} {f : Frame} {w : Work} {operands : List Byte → Except Status Work}
    (h : s.Asks p k f) (hx : operands f.payload = .ok w) :
    let job : Job := { tag := f.tag, port := p, session := (s.session p).number, work := w, mark := .none }
    s.serve p k operands (queueTakes p) (State.appendJob p) =
      if 4 ≤ (s.jobs p).length then s.held p
      else if s.running = none ∧ ∀ q, s.jobs q = [] then ((s.popped p).setRunning (some job)).setPointer p
      else (s.popped p).setJobs p (s.jobs p ++ [job]) := by
  intro job
  rw [State.serve_asks _ _ h hx]
  by_cases hfull : 4 ≤ (s.jobs p).length
  · rw [if_neg (mt (queueTakes_iff p s w).mp (not_not.mpr hfull)), if_pos hfull]
  · rw [if_pos ((queueTakes_iff p s w).mpr hfull), if_neg hfull]
    unfold State.appendJob
    simp only [State.engineFree_iff, State.popped_running, State.popped_jobs, State.popped_session]
    refine if_ctx_congr Iff.rfl (fun hfree => ?_) fun _ => rfl
    obtain ⟨hrun, hempty⟩ := hfree
    rw [hempty p, List.nil_append]
    exact State.makeGrant_of_only hrun hempty

/-- Settles O41: each job request is read as it was sent, and served as a job. -/
theorem jobRequestsQueueJobs : Obligations.JobRequestsQueueJobs := by
  intro p s f w
  refine ⟨fun a pairs negate target hw h1 h16 h hf => ?_, fun a value target hw h hf => ?_, fun a hw h hf => ?_,
    fun hw h hf => ?_⟩
  · have hx : accumulateOperands f.payload = .ok w := by rw [hf, hw]; exact accumulateOperands_sent a pairs negate target h1 h16
    exact congrArg _ (State.serve_job h hx)
  · have hx : loadOperands f.payload = .ok w := by rw [hf, hw]; exact loadOperands_sent a value target
    exact congrArg _ (State.serve_job h hx)
  · have hx : closeWindowOperands f.payload = .ok w := by
      have ha : accOperand (Work.close a).sent = .ok a := accOperand_byte rfl
      rw [hf, hw, closeWindowOperands, ha]
    exact congrArg _ (State.serve_job h hx)
  · have hx : fenceOperands f.payload = .ok w := by rw [hf, hw]; rfl
    exact congrArg _ (State.serve_job h hx)

/-! ### The tests at completion (R60 to R66) -/

theorem exec_jobCompletion_of_none {s : State} (h : s.running = none) : exec .jobCompletion s = .next s := by
  show execJobCompletion s = _
  simp only [execJobCompletion, h]

section
variable {s : State} {j : Job}

theorem exec_jobCompletion_noTrace (hrun : s.running = some j) (hj : (s.setRunning none).judgeJob j = .noTrace) :
    exec .jobCompletion s = .next (s.setRunning none) := by
  show execJobCompletion s = _
  simp only [execJobCompletion, hrun, State.complete, hj]

theorem exec_jobCompletion_answer {st : Status} {payload : List Byte} (hrun : s.running = some j)
    (hj : (s.setRunning none).judgeJob j = .answer ⟨st, payload⟩) :
    exec .jobCompletion s = .next ((s.setRunning none).responded j.port j.tag st payload) := by
  show execJobCompletion s = _
  simp only [execJobCompletion, hrun, State.complete, hj, State.reply_eq]

theorem State.isCurrent_iff (s : State) (j : Job) :
    s.isCurrent j = true ↔ (s.session j.port).isOpen = true ∧ (s.session j.port).number = j.session := by
  simp [State.isCurrent]

theorem State.judgeJob_noTrace (h : j.mark = .discard ∨ ¬ s.isCurrent j = true) : s.judgeJob j = .noTrace :=
  if_pos (h.imp_right Bool.eq_false_iff.mpr)

variable (hcurrent : s.isCurrent j = true)
include hcurrent

theorem State.judgeJob_cancelled (hmark : j.mark = .cancel) : s.judgeJob j = .answer (.plain .cancelled) := by
  simp [State.judgeJob, hcurrent, hmark]

variable (hmark : j.mark = .none)
include hmark

theorem State.judgeJob_fence (hwork : j.work = .fence) : s.judgeJob j = .answer (.okay []) := by
  simp [State.judgeJob, hcurrent, hmark, hwork, Work.acc?]

variable {a : AccIx} (hacc : j.work.acc? = some a)
include hacc

theorem State.judgeJob_gone (ha : s.acc a = none) : s.judgeJob j = .answer (.plain .gone) := by
  simp [State.judgeJob, hcurrent, hmark, hacc, ha]

variable {r : Accumulator} (ha : s.acc a = some r)
include ha

theorem State.judgeJob_notAuthorised (hstanding : ¬ r.standing j.port j.work = true) :
    s.judgeJob j = .answer (.plain .notAuthorised) := by
  simp [State.judgeJob, hcurrent, hmark, hacc, ha, hstanding]

variable (hstanding : r.standing j.port j.work = true) {w : Sequence} (htarget : j.work.target? = some w)
include hstanding htarget

theorem State.judgeJob_windowPassed (hw : w.toNat < r.openSequence.toNat) :
    s.judgeJob j = .answer ⟨.windowPassed, wordBytes 6 r.openSequence⟩ := by
  simp [State.judgeJob, hcurrent, hmark, hacc, ha, hstanding, htarget, targetRefusal, BitVec.lt_def, hw]

theorem State.judgeJob_windowNotOpen (hw : r.openSequence.toNat < w.toNat) :
    s.judgeJob j = .answer ⟨.windowNotOpen, wordBytes 6 r.openSequence⟩ := by
  simp [State.judgeJob, hcurrent, hmark, hacc, ha, hstanding, htarget, targetRefusal, BitVec.lt_def, hw,
    Nat.lt_asymm hw]

end

/-- The standing that a job on an accumulator needs (R65). -/
theorem Accumulator.standing_iff (r : Accumulator) (q : Port) {w : Work} {a : AccIx} (hacc : w.acc? = some a) :
    r.standing q w = true ↔ r.owner = some q ∨
      (r.isContributor q = true ∧ ∃ pairs negate target, w = .accumulate a pairs negate target) := by
  cases w with
  | accumulate a' pairs negate target =>
    obtain rfl : a' = a := Option.some.inj hacc
    simp [Accumulator.standing, r.ownedBy_iff]
  | load | close => simp [Accumulator.standing, r.ownedBy_iff]
  | fence => cases hacc

/-- Settles O43: the verdict of each test of Table 3-2, in their order. -/
theorem completionTestsInOrder : Obligations.CompletionTestsInOrder := by
  refine ⟨fun s => exec_jobCompletion_of_none, fun s j hrun => ?_⟩
  have hcurrent := (s.setRunning none).isCurrent_iff j
  refine ⟨fun hno => ?noTrace, fun hc hmark => ?cancelled, fun hc hmark hwork => ?fence, fun a hc hmark hacc ha => ?gone,
    fun a r hc hmark hacc ha => ⟨fun hmay => ?notAuthorised, fun w hmay hw => ⟨fun hlt => ?passed, fun hlt => ?notOpen⟩⟩⟩
  case noTrace => exact exec_jobCompletion_noTrace hrun (State.judgeJob_noTrace (hno.imp_right (mt hcurrent.mp)))
  case cancelled => exact exec_jobCompletion_answer hrun (State.judgeJob_cancelled (hcurrent.mpr hc) hmark)
  case fence => exact exec_jobCompletion_answer hrun (State.judgeJob_fence (hcurrent.mpr hc) hmark hwork)
  case gone => exact exec_jobCompletion_answer hrun (State.judgeJob_gone (hcurrent.mpr hc) hmark hacc ha)
  case notAuthorised =>
    exact exec_jobCompletion_answer hrun
      (State.judgeJob_notAuthorised (hcurrent.mpr hc) hmark hacc ha (mt (r.standing_iff _ hacc).mp hmay))
  case passed =>
    exact exec_jobCompletion_answer hrun
      (State.judgeJob_windowPassed (hcurrent.mpr hc) hmark hacc ha ((r.standing_iff _ hacc).mpr hmay) hw hlt)
  case notOpen =>
    exact exec_jobCompletion_answer hrun
      (State.judgeJob_windowNotOpen (hcurrent.mpr hc) hmark hacc ha ((r.standing_iff _ hacc).mpr hmay) hw hlt)

/-! ### ACCUMULATE applied (R12 to R15, R17, R67) -/

theorem productSum_eq (m : Mode) (pairs : List (Word32 × Word32)) :
    productSum m pairs = (pairs.map fun x => operandValue m x.1 * operandValue m x.2).sum := by
  induction pairs with
  | nil => rfl
  | cons x pairs ih => simp [productSum, ih]

/-- The wide value of a sum: the one with the clamped integer (R14). -/
theorem clampWide_eq {x : Int} {live : Wide} (h : live.toInt = max (-(2 ^ 71)) (min (2 ^ 71 - 1) x)) : clampWide x = live := by
  refine BitVec.eq_of_toInt_eq ?_
  rw [h, clampWide, wideMax, wideMin]
  split
  · rw [BitVec.toInt_ofInt_eq_self (by decide) (by decide) (by decide)]
    omega
  · split
    · rw [BitVec.toInt_ofInt_eq_self (by decide) (by decide) (by decide)]
      omega
    · rw [BitVec.toInt_ofInt_eq_self (by decide) (by omega) (by omega)]
      omega

theorem outsideWide_eq (x : Int) : outsideWide x = !decide (-(2 ^ 71) ≤ x ∧ x ≤ 2 ^ 71 - 1) := by
  rw [Bool.eq_iff_iff, outsideWide, Bool.or_eq_true, decide_eq_true_iff, decide_eq_true_iff, Bool.not_eq_true',
    decide_eq_false_iff_not]
  unfold wideMax wideMin
  omega

theorem addCount_eq {c count : Word32} {n : Nat} (h : count.toNat = min (2 ^ 32 - 1) (c.toNat + n)) :
    addCount c n = count := by
  refine BitVec.eq_of_toNat_eq ?_
  rw [h, addCount]
  split <;> simp only [BitVec.toNat_ofNat, Config.maxCount] at * <;> omega

/-- Settles O44: the job passes the tests, and its partial is the exact sum, clamped and counted. -/
theorem accumulateAddsTheExactPartial : Obligations.AccumulateAddsTheExactPartial := by
  intro s j a r pairs negate target live count hrun hmark hopen hnumber hwork ha hmay htarget read total sum hlive hcount
    saturated
  have hstanding : r.standing j.port j.work = true :=
    (r.standing_iff (a := a) _ (by rw [hwork]; rfl)).mpr (hmay.imp_right fun hc => ⟨hc, _, _, _, hwork⟩)
  have hj : (s.setRunning none).judgeJob j = .apply a r :=
    State.judgeJob_apply hmark hopen hnumber (by rw [hwork]; rfl) ha hstanding (by rw [hwork]; exact htarget)
  have htotal : productSum r.policies.mode pairs = total := by
    rw [productSum_eq]
    unfold total read operandValue
    cases r.policies.mode <;> rfl
  have hsum : r.live.toInt + partialOf r.policies.mode negate pairs = sum := by
    unfold partialOf
    rw [htotal]
  refine exec_jobCompletion_apply hrun hj (hwork ▸ ?_)
  simp only [State.applyJob, Accumulator.applyPartial, Accumulator.landed, hsum, clampWide_eq hlive, addCount_eq hcount,
    outsideWide_eq, resultPayload_eq]
  rfl

/-! ### JOB_CANCEL (R70, R74) -/

theorem exec_jobCancel (p : Port) (s : State) :
    exec (.jobCancel p) s = .next (s.serveReply p .jobCancel cancelOperands always (State.jobCancel p)) := rfl

theorem State.qualifies_iff (s : State) (p : Port) (tag : Byte) (j : Job) : s.qualifies p tag j = true ↔
    j.port = p ∧ j.tag = tag ∧ j.session = (s.session p).number ∧ j.mark ≠ .discard := by
  simp [State.qualifies, and_assoc]

section
variable {s : State} {p : Port} {tag : Byte}

theorem State.jobCancel_of_running {j : Job} (hrun : s.running = some j) (hj : s.qualifies p tag j = true) :
    s.jobCancel p tag = (s.setRunning (some { j with mark := .cancel }), ⟨.ok, []⟩) := by
  simp only [State.jobCancel, hrun, if_pos hj]
  rfl

theorem State.jobCancel_of_not_running (h : ∀ j, s.running = some j → ¬ s.qualifies p tag j = true) :
    s.jobCancel p tag = s.cancelQueued p tag := by
  unfold State.jobCancel
  cases hrun : s.running with
  | none => rfl
  | some j => exact if_neg (h j hrun)

theorem State.cancelQueued_of_oldest {older newer : List Job} {j : Job} (hjobs : s.jobs p = older ++ j :: newer)
    (hj : s.qualifies p tag j = true) (holder : ∀ x ∈ older, ¬ s.qualifies p tag x = true) :
    s.cancelQueued p tag = ((s.setJobs p (older ++ newer)).responded p tag .cancelled [], ⟨.ok, []⟩) := by
  have hfind : (s.jobs p).find? (s.qualifies p tag) = some j :=
    List.find?_eq_some_iff_append.mpr ⟨hj, older, newer, hjobs, fun x hx => by simpa using holder x hx⟩
  have herase : (s.jobs p).eraseP (s.qualifies p tag) = older ++ newer := by
    rw [hjobs, List.eraseP_append_right _ holder, List.eraseP_cons_of_pos hj]
  obtain ⟨-, htag, -, -⟩ := (s.qualifies_iff p tag j).mp hj
  simp only [State.cancelQueued, hfind, herase, State.reply_eq, htag]
  rfl

theorem State.cancelQueued_of_none (h : ∀ x ∈ s.jobs p, ¬ s.qualifies p tag x = true) :
    s.cancelQueued p tag = (s, ⟨.notFound, []⟩) := by
  simp only [State.cancelQueued, List.find?_eq_none.mpr h]
  rfl

end

/-- Settles O47: the running job, the oldest queued, and none that qualifies, on the state the request has left. -/
theorem jobCancelTakesTheOldest : Obligations.JobCancelTakesTheOldest := by
  intro p s f tag h hf fits
  have hx : cancelOperands f.payload = .ok tag := by rw [hf]; rfl
  have hfits : ∀ j, (s.popped p).qualifies p tag j = true ↔ fits j := (s.popped p).qualifies_iff p tag
  rw [exec_jobCancel]
  refine ⟨fun j hrun hj => congrArg _ ?_, fun hnone => ?_⟩
  · rw [State.serveReply_next h hx (State.jobCancel_of_running hrun ((hfits j).mpr hj))]
    rfl
  · have hqueued := State.jobCancel_of_not_running (s := s.popped p) fun j hrun => mt (hfits j).mp (hnone j hrun)
    refine ⟨fun newer j older hjobs hj holder => congrArg _ ?_, fun hno => congrArg _ ?_⟩
    · have holdest := State.cancelQueued_of_oldest (s := s.popped p) hjobs ((hfits j).mpr hj)
        fun x hx => mt (hfits x).mp (holder x hx)
      rw [State.serveReply_next h hx (hqueued.trans holdest)]
      exact congrArg (fun t : State => t.responded p f.tag .ok [])
        ((s.setJobs p (older ++ newer)).popped_responded p tag .cancelled [])
    · have hnot := State.cancelQueued_of_none (s := s.popped p) fun x hx => mt (hfits x).mp (hno x hx)
      rw [State.serveReply_next h hx (hqueued.trans hnot)]
      rfl

end Sys2Proof.Machine
end

section
/-! PROOF. Requests at the decoder and the session timer, the requests that report a record, the group requests and
ACC_OFFER (O25, O27 to O29, O32, O37, O53, O54). -/

namespace Sys2Proof.Machine

/-! ### Requests in general (R156, R181, R182) -/

section
variable {α : Type} {s t : State} {p : Port} {k : Kind} {f : Frame} {x : α} {operands : List Byte → Except Status α}
  {ready : State → α → Bool} {take : State → α → State × Reply} {st : Status} {payload : List Byte}

/-- A request in OPEN with its payload checked, which its block can take, by what the block makes of it. -/
theorem State.serveReply_taken (h : s.Asks p k f) (hx : operands f.payload = .ok x) (hready : ready s x = true)
    (ht : take (s.popped p) x = (t, ⟨st, payload⟩)) :
    s.serveReply p k operands ready take = t.responded p f.tag st payload := by
  rw [State.serveReply_asks ready take h hx, if_pos hready, ht]

theorem State.serveReply_held (h : s.Asks p k f) (hx : operands f.payload = .ok x) (hready : ready s x = false) :
    s.serveReply p k operands ready take = s.held p := by
  rw [State.serveReply_asks ready take h hx, if_neg (Bool.eq_false_iff.mp hready)]

theorem exists_of_refusalOf_eq_none {y : Except Status α} (h : refusalOf y = none) : ∃ x, y = .ok x := by
  cases y with
  | ok x => exact ⟨x, rfl⟩
  | error => cases h

end

/-- Settles O25: the session test of R182 stands before the check of the payload. -/
theorem closedSessionAnswersNoSession : Obligations.ClosedSessionAnswersNoSession := by
  intro k p s f hk hhead hclosed hholding
  obtain ⟨α, operands, ready, take, -, hexec⟩ := k.served
  have hrefuses : s.sessionRefuses p k = true := by simp [State.sessionRefuses, hclosed, hholding, hk]
  rw [hexec, State.serve_eq _ _ _ hhead, if_pos hrefuses]

/-- The command of a kind is the decoder's serving of a group request (log entry 4). -/
def Kind.Clocked (k : Kind) : Prop :=
  ∃ (α : Type) (operands : List Byte → Except Status α) (take : Port → State → α → State × Reply),
    (∀ l, refusalOf (operands l) = k.refusal l) ∧
    ∀ p s, exec (k.command p) s = .next (s.serveReply p k operands clockTakes (take p))

theorem Kind.clocked : ∀ k ∈ [Kind.groupClaim, .groupSet, .groupStart, .groupStop, .groupRelease, .groupInfo],
    k.Clocked := by
  simp only [List.forall_mem_cons]
  exact ⟨⟨_, _, _, groupOperand_refusal, fun _ _ => rfl⟩, ⟨_, _, _, groupSetOperands_refusal, fun _ _ => rfl⟩,
    ⟨_, _, _, groupStartOperands_refusal, fun _ _ => rfl⟩, ⟨_, _, _, groupOperand_refusal, fun _ _ => rfl⟩,
    ⟨_, _, _, groupOperand_refusal, fun _ _ => rfl⟩, ⟨_, _, _, groupOperand_refusal, fun _ _ => rfl⟩,
    fun _ hk => absurd hk List.not_mem_nil⟩

theorem emptyOperands_of_empty {l : List Byte} (h : l = []) : emptyOperands l = .ok () := by rw [h]; rfl

/-- Settles O27: a request that does not stand at the head, and the two blocks that wait within a tick. -/
theorem requestsWaitTheirTurn : Obligations.RequestsWaitTheirTurn := by
  intro k p s
  refine ⟨fun hno => ?notHead, fun f h hf howed => ?timer, fun f hk h hrefusal hwait => ?clock⟩
  case notHead =>
    obtain ⟨α, operands, ready, take, -, hexec⟩ := k.served
    rw [hexec, State.serve_of_ne _ _ _ hno]
  case timer =>
    have hready : timerTakes p s () = false := by simp [timerTakes, howed]
    exact congrArg _ (State.serveReply_held h (emptyOperands_of_empty hf) hready)
  case clock =>
    obtain ⟨α, operands, take, hreader, hexec⟩ := k.clocked hk
    obtain ⟨x, hx⟩ := exists_of_refusalOf_eq_none ((hreader _).trans hrefusal)
    rw [hexec, State.serveReply_held h hx hwait]

/-! ### OPEN (R157, R158) -/

theorem exec_openSession (p : Port) (s : State) :
    exec (.openSession p) s = .next (s.serveReply p .openSession openOperands (openTakes p) (State.takeOpen p)) := rfl

theorem openOperands_pair {b1 b0 : Byte} (hlow : 16 ≤ 256 * b1.toNat + b0.toNat) (hhigh : 256 * b1.toNat + b0.toNat ≤ 8192) :
    openOperands [b1, b0] = .ok (256 * b1.toNat + b0.toNat) := by
  show checkFields (boundedField 16 8192 (beNat [b1, b0])) = _
  rw [beNat_pair, boundedField_eq hlow hhigh]
  rfl

section
variable {s : State} {p : Port} {f : Frame} {n : Nat}

/-- An OPEN whose lease length is checked is put to no session test: it is taken, or held while an end is in progress. -/
theorem State.serveReply_open (h : s.HeadIs p .openSession f) (hx : openOperands f.payload = .ok n) :
    s.serveReply p .openSession openOperands (openTakes p) (State.takeOpen p) =
      if (s.session p).ending = true then s.held p
      else ((s.popped p).takeOpen p n).1.responded p f.tag ((s.popped p).takeOpen p n).2.status
        ((s.popped p).takeOpen p n).2.payload := by
  unfold State.serveReply
  rw [State.serve_eq _ _ _ h, State.sessionRefuses_eq_false (.inr rfl), hx]
  by_cases hending : (s.session p).ending = true <;> simp [openTakes, hending, State.reply_eq]

theorem State.takeOpen_of_open (h : (s.session p).isOpen = true) : s.takeOpen p n = (s, .plain .alreadyOpen) := if_pos h

theorem State.takeOpen_of_closed (h : (s.session p).isOpen = false) : s.takeOpen p n =
    ((s.setSession p ((s.session p).opened n)).setPort p { s.port p with expired := false },
      .okay (openPayload ((s.session p).opened n))) := if_neg (Bool.eq_false_iff.mp h)

end

/-- The EXPIRED flag's clearing and the request's leaving its queue do not meet. -/
theorem State.popped_opened (s : State) (p : Port) (r : Session) :
    ((s.popped p).setSession p r).setPort p { (s.popped p).port p with expired := false } =
      ((s.setSession p r).setPort p { s.port p with expired := false }).popped p := by
  have hport : ∀ x y, ((s.setPort p x).setSession p r).setPort p y = (s.setSession p r).setPort p y := fun x y =>
    congrArg (fun t : State => t.setSession p r) (s.setPort_setPort p x y)
  unfold State.popped
  rw [hport, State.setPort_port_self, State.setPort_port_self, State.setPort_setPort]

/-- Settles O28: OPEN taken in CLOSED, taken in OPEN, and held while an end is in progress. -/
theorem openStartsASession : Obligations.OpenStartsASession := by
  intro p s f b1 b0 h hf hlow hhigh length
  have hx : openOperands f.payload = .ok length := hf ▸ openOperands_pair hlow hhigh
  rw [exec_openSession, State.serveReply_open h hx]
  refine ⟨fun hclosed hend => ?closed, fun hopen hend => ?already, fun hend => ?ending⟩
  case closed =>
    rw [if_neg (Bool.eq_false_iff.mp hend), State.takeOpen_of_closed (s := s.popped p) hclosed]
    simp only [State.popped_opened, State.popped_session, Reply.okay, openPayload, EndCause.code_sent, Session.opened,
      State.answered]
  case already =>
    rw [if_neg (Bool.eq_false_iff.mp hend), State.takeOpen_of_open (s := s.popped p) hopen]
    rfl
  case ending => rw [if_pos hend]

/-! ### CLOSE (R162) -/

/-- Settles O29: CLOSE is taken at once, and its end is the claim of O30. -/
theorem closeEndsTheSession : Obligations.CloseEndsTheSession := by
  intro p s f h hf
  have htake : s.serve p .closeSession emptyOperands always (State.takeClose p) = (s.popped p).endSession p .close
      (some { tag := f.tag, status := .ok, payload := wordBytes 2 (s.session p).number }) :=
    (State.serve_asks always (State.takeClose p) h (emptyOperands_of_empty hf)).trans (if_pos rfl)
  rw [← State.endSession_eq_afterEnd, ← htake]
  rfl

/-! ### The requests that report a record (R11, R85, R142, R170) -/

theorem groupPayload_sent (r : Group) (tick : Word32) : groupPayload r tick =
    [if r.running then 0x01 else 0x00, match r.owner with | some q => byte q.val | none => 0xFF] ++ beBytes 2 r.period ++
      beBytes 2 (r.countdown.getD 0) ++ wordBytes 4 r.boundaryCount ++ wordBytes 4 tick := by
  unfold groupPayload
  cases r.running <;> cases r.owner <;> rfl

theorem statusPayload_sent (r : Session) (l : Lease) (tick : Word32) : statusPayload r l tick =
    [0x01] ++ wordBytes 2 r.number ++ beBytes 2 l.length ++ beBytes 2 l.remaining ++ [r.lastEnd.sent] ++ wordBytes 4 tick := by
  rw [statusPayload, EndCause.code_sent]
  rfl

/-- Settles O32: each block answers from its record and leaves the state as its request has left it. -/
theorem infoRequestsReport : Obligations.InfoRequestsReport := by
  intro p s f
  refine ⟨fun a h hf => ?acc, fun i h hf => ?monitor, fun g h hf hready => ?group, fun l h hf hl howed => ?status⟩
  case acc =>
    have hreply : exec (.accInfo p) s = .next (s.answered p f .ok (infoPayload (s.acc a))) :=
      congrArg _ (State.serveReply_next h (accOperand_byte hf) rfl)
    rw [hreply]
    refine ⟨fun ha => by rw [ha]; rfl, fun r ha => ⟨r.offer.any (·.keep), fun o ho => ?_, ?_⟩⟩
    · rw [ho]
      rfl
    · rw [ha, infoPayload_sent]
  case monitor =>
    have hreply : exec (.monInfo p) s = .next (s.answered p f .ok (monitorPayload (s.monitor i))) :=
      congrArg _ (State.serveReply_next h (monOperand_byte hf) rfl)
    rw [hreply]
    refine ⟨fun hi => by rw [hi]; rfl, fun m hi => by rw [hi, monitorPayload_sent]⟩
  case group =>
    have hreply : exec (.groupInfo p) s = .next (s.answered p f .ok (groupPayload (s.group g) s.tick)) :=
      congrArg _ (State.serveReply_taken h (groupOperand_byte hf) hready rfl)
    exact hreply.trans (congrArg (fun l => Host.Outcome.next (s.answered p f .ok l)) (groupPayload_sent (s.group g) s.tick))
  case status =>
    have hready : timerTakes p s () = true := by simp [timerTakes, howed]
    have htake : (s.popped p).takeStatus p () = (s.popped p, ⟨.ok, statusPayload (s.session p) l s.tick⟩) := by
      simp only [State.takeStatus, State.popped_session, hl]
      rfl
    have hreply : exec (.portStatus p) s = .next (s.answered p f .ok (statusPayload (s.session p) l s.tick)) :=
      congrArg _ (State.serveReply_taken h (emptyOperands_of_empty hf) hready htake)
    rw [hreply, statusPayload_sent]

/-! ### ACC_OFFER (R33, R34) -/

theorem exec_accOffer (p : Port) (s : State) :
    exec (.accOffer p) s = .next (s.serveReply p .accOffer offerOperands always (State.accOffer p)) := rfl

/-- Settles O37: the checks of R33 in their order, and the offer with its two events. -/
theorem accOfferSetsTheOffer : Obligations.AccOfferSetsTheOffer := by
  intro p s f x h hf
  have hx : offerOperands f.payload = .ok x := hf ▸ offerOperands_sent x
  rw [exec_accOffer]
  refine ⟨fun ha => congrArg _ (State.serveReply_next h hx (State.accOffer_of_free p ha)), fun r ha => congrArg _ ?_⟩
  have hoffer := State.accOffer_of_inUse (s := s.popped p) p ha
  rw [State.setOffer_eq] at hoffer
  split_ifs with howner hself hclosed
  · exact State.serveReply_next h hx (hoffer.trans (if_pos howner))
  · exact State.serveReply_next h hx (hoffer.trans ((if_neg howner).trans (if_pos hself)))
  · exact State.serveReply_next h hx (hoffer.trans ((if_neg howner).trans ((if_neg hself).trans (if_pos hclosed))))
  · exact State.serveReply_next h hx (hoffer.trans ((if_neg howner).trans ((if_neg hself).trans (if_neg hclosed))))

/-! ### The group requests (R80 to R84) -/

section
variable {s : State} {p : Port} {g : GroupIx}

theorem Group.running_iff (r : Group) : r.running = true ↔ r.countdown ≠ none := Option.isSome_iff_ne_none

theorem State.groupClaim_eq (s : State) (p : Port) (g : GroupIx) : s.groupClaim p g =
    if (s.group g).owner = none then (s.setGroup g { s.group g with owner := some p }, ⟨.ok, []⟩)
    else (s, ⟨.alreadyOwned, []⟩) := by
  unfold State.groupClaim
  cases (s.group g).owner <;> rfl

theorem State.groupRelease_eq (s : State) (p : Port) (g : GroupIx) : s.groupRelease p g =
    if (s.group g).owner = some p then (s.setGroup g { s.group g with owner := none }, ⟨.ok, []⟩)
    else (s, ⟨.notOwner, []⟩) := by
  simp only [State.groupRelease, ne_eq, ite_not]
  rfl

theorem State.groupSet_eq (s : State) (p : Port) (g : GroupIx) (period : Nat) : s.groupSet p (g, period) =
    if (s.group g).owner ≠ some p then (s, ⟨.notOwner, []⟩)
    else if (s.group g).countdown ≠ none then (s, ⟨.busy, []⟩)
    else (s.setGroup g { s.group g with period := period }, ⟨.ok, []⟩) := by
  simp only [State.groupSet, Group.running_iff]
  rfl

/-- A phase is within the period, or there is none, in which case the period itself is meant (R82). -/
theorem State.groupStart_eq (s : State) (p : Port) (g : GroupIx) (phase : Option Nat) : s.groupStart p (g, phase) =
    if (s.group g).owner ≠ some p then (s, ⟨.notOwner, []⟩)
    else if (s.group g).countdown ≠ none then (s, ⟨.busy, []⟩)
    else if phase.any (fun n => decide ((s.group g).period < n)) then (s, ⟨.badField, []⟩)
    else (s.setGroup g { s.group g with countdown := some (phase.getD (s.group g).period) },
      ⟨.ok, beBytes 2 (phase.getD (s.group g).period) ++ wordBytes 4 s.tick⟩) := by
  have hphase : phase.any (fun n => decide ((s.group g).period < n)) = true ↔ (s.group g).period < phase.getD 0 := by
    cases phase <;> simp
  simp only [State.groupStart, Group.running_iff, hphase]
  rfl

/-- GROUP_STOP drops the countdown where there is one (R83). -/
theorem State.groupStop_eq (s : State) (p : Port) (g : GroupIx) : s.groupStop p g =
    if (s.group g).owner ≠ some p then (s, ⟨.notOwner, []⟩)
    else (s.setGroup g { s.group g with countdown := none },
      ⟨.ok, ((s.group g).countdown.map (beBytes 2)).getD []⟩) := by
  have same := s.setGroup_group_eq g
  unfold State.groupStop
  refine if_congr Iff.rfl rfl ?_
  cases hc : (s.group g).countdown with
  | none =>
    have hnone : s.setGroup g { s.group g with countdown := none } = s := by rw [← hc]; exact same
    rw [hnone]
    rfl
  | some c => rfl

end

theorem exec_groupClaim (p : Port) (s : State) :
    exec (.groupClaim p) s = .next (s.serveReply p .groupClaim groupOperand clockTakes (State.groupClaim p)) := rfl

theorem exec_groupRelease (p : Port) (s : State) :
    exec (.groupRelease p) s = .next (s.serveReply p .groupRelease groupOperand clockTakes (State.groupRelease p)) := rfl

theorem exec_groupSet (p : Port) (s : State) :
    exec (.groupSet p) s = .next (s.serveReply p .groupSet groupSetOperands clockTakes (State.groupSet p)) := rfl

theorem exec_groupStart (p : Port) (s : State) :
    exec (.groupStart p) s = .next (s.serveReply p .groupStart groupStartOperands clockTakes (State.groupStart p)) := rfl

theorem exec_groupStop (p : Port) (s : State) :
    exec (.groupStop p) s = .next (s.serveReply p .groupStop groupOperand clockTakes (State.groupStop p)) := rfl

/-- Settles O53: GROUP_CLAIM and GROUP_RELEASE on the state the request has left. -/
theorem groupOwnershipIsClaimedAndReleased : Obligations.GroupOwnershipIsClaimedAndReleased := by
  intro p s f g hf hready
  have hx : groupOperand f.payload = .ok g := groupOperand_byte hf
  rw [exec_groupClaim, exec_groupRelease]
  refine ⟨fun h => congrArg _ ?claim, fun h => congrArg _ ?release⟩
  case claim =>
    have hclaim := (s.popped p).groupClaim_eq p g
    split_ifs with howner
    · exact State.serveReply_taken h hx hready (hclaim.trans (if_pos howner))
    · exact State.serveReply_taken h hx hready (hclaim.trans (if_neg howner))
  case release =>
    have hrelease := (s.popped p).groupRelease_eq p g
    split_ifs with howner
    · exact State.serveReply_taken h hx hready (hrelease.trans (if_pos howner))
    · exact State.serveReply_taken h hx hready (hrelease.trans (if_neg howner))

/-- Settles O54: GROUP_SET, GROUP_START and GROUP_STOP on the state the request has left. -/
theorem groupScheduleIsSetStartedAndStopped : Obligations.GroupScheduleIsSetStartedAndStopped := by
  intro p s f g hready
  rw [exec_groupSet, exec_groupStart, exec_groupStop]
  refine ⟨fun period h hlow hhigh hf => congrArg _ ?set, fun phase h hphase hf => congrArg _ ?start,
    fun h hf => congrArg _ ?stop⟩
  case set =>
    have hx : groupSetOperands f.payload = .ok (g, period) := hf ▸ groupSetOperands_sent g period hlow hhigh
    have hset := (s.popped p).groupSet_eq p g period
    split_ifs with howner hrunning
    · exact State.serveReply_taken h hx hready (hset.trans (if_pos howner))
    · exact State.serveReply_taken h hx hready (hset.trans ((if_neg howner).trans (if_pos hrunning)))
    · exact State.serveReply_taken h hx hready (hset.trans ((if_neg howner).trans (if_neg hrunning)))
  case start =>
    have hx : groupStartOperands f.payload = .ok (g, phase) := hf ▸ groupStartOperands_sent g phase hphase
    have hstart := (s.popped p).groupStart_eq p g phase
    split_ifs with howner hrunning hphase
    · exact State.serveReply_taken h hx hready (hstart.trans (if_pos howner))
    · exact State.serveReply_taken h hx hready (hstart.trans ((if_neg howner).trans (if_pos hrunning)))
    · exact State.serveReply_taken h hx hready
        (hstart.trans ((if_neg howner).trans ((if_neg hrunning).trans (if_pos hphase))))
    · exact State.serveReply_taken h hx hready
        (hstart.trans ((if_neg howner).trans ((if_neg hrunning).trans (if_neg hphase))))
  case stop =>
    have hstop := (s.popped p).groupStop_eq p g
    split_ifs with howner
    · exact State.serveReply_taken h (groupOperand_byte hf) hready (hstop.trans (if_pos howner))
    · exact State.serveReply_taken h (groupOperand_byte hf) hready (hstop.trans (if_neg howner))

end Sys2Proof.Machine
end

section
/-! PROOF. Reset values (O4, O10), RESETn low (O11), the queue of commands (O1 to O3), and the limits that every command keeps
(O6 to O9). -/

namespace Sys2Proof.Machine

/-! ### Reset values (R3, R75, R77, R78, R98, R128, R154, R155, R172) -/

theorem State.atReset_hasResetValues (s : State) (low : Bool) : (s.atReset low).HasResetValues :=
  ⟨rfl, rfl, rfl, rfl, rfl, fun _ => ⟨entry_replicate _ _, entry_replicate _ _⟩, fun _ => entry_replicate _ _,
    fun _ => ⟨entry_replicate _ _, entry_replicate _ _⟩,
    fun p => ⟨entry_replicate _ _, entry_replicate _ _, entry_replicate _ _, by rw [State.atReset_port]; rfl⟩⟩

theorem State.reset_hasResetValues : State.reset.HasResetValues :=
  ⟨rfl, rfl, rfl, rfl, rfl, fun _ => ⟨entry_replicate _ _, entry_replicate _ _⟩, fun _ => entry_replicate _ _,
    fun _ => ⟨entry_replicate _ _, entry_replicate _ _⟩,
    fun p => ⟨entry_replicate _ _, entry_replicate _ _, entry_replicate _ _, by
      have hport : State.reset.port p = PortRecord.reset := entry_replicate _ _
      rw [hport]
      rfl⟩⟩

theorem exec_deviceReset (s : State) : exec .deviceReset s = .next (s.atReset true) := rfl

theorem exec_resetnReturnsHigh_of_low {s : State} (h : s.resetLow = true) :
    exec .resetnReturnsHigh s = .next { s with resetLow := false, refclk := 0 } := congrArg _ (if_pos h)

theorem exec_resetnReturnsHigh_of_high {s : State} (h : s.resetLow = false) : exec .resetnReturnsHigh s = .next s :=
  congrArg _ (if_neg (Bool.eq_false_iff.mp h))

/-- Settles O10: the reset values at State.reset and after DEVICE_RESET, and RESETN_RETURNS_HIGH. -/
theorem deviceResetRestoresEveryBlock : Obligations.DeviceResetRestoresEveryBlock := by
  refine ⟨⟨State.reset_hasResetValues, rfl, rfl, fun p => ?_⟩, fun s => ⟨s.atReset true, exec_deviceReset s,
    s.atReset_hasResetValues true, rfl, rfl, fun p => ?_⟩, fun s =>
    ⟨exec_resetnReturnsHigh_of_low, exec_resetnReturnsHigh_of_high⟩⟩
  · exact congrArg PortRecord.selLow (entry_replicate PortRecord.reset p)
  · rw [State.atReset_port]
    rfl

namespace State.HasResetValues

variable {s : State} (h : s.HasResetValues)
include h

theorem acc (a : AccIx) : s.acc a = none := by
  obtain ⟨-, -, -, -, -, haccs, -⟩ := h
  exact (haccs a).1

theorem claims (a : AccIx) : s.claims a = [] := by
  obtain ⟨-, -, -, -, -, haccs, -⟩ := h
  exact (haccs a).2

theorem pool : s.pool = 256 := by
  obtain ⟨-, -, hpool, -⟩ := h
  exact hpool

theorem running : s.running = none := by
  obtain ⟨-, -, -, hrunning, -⟩ := h
  exact hrunning

theorem monitor (i : MonIx) : s.monitor i = none := by
  obtain ⟨-, -, -, -, -, -, hmonitors, -⟩ := h
  exact hmonitors i

theorem notice (g : GroupIx) : s.notice g = none := by
  obtain ⟨-, -, -, -, -, -, -, hgroups, -⟩ := h
  exact (hgroups g).1

theorem group (g : GroupIx) : s.group g = Group.reset := by
  obtain ⟨-, -, -, -, -, -, -, hgroups, -⟩ := h
  exact (hgroups g).2

theorem jobs (p : Port) : s.jobs p = [] := by
  obtain ⟨-, -, -, -, -, -, -, -, hports⟩ := h
  exact (hports p).1

theorem events (p : Port) : s.events p = [] := by
  obtain ⟨-, -, -, -, -, -, -, -, hports⟩ := h
  exact (hports p).2.1

theorem session (p : Port) : s.session p = Session.reset := by
  obtain ⟨-, -, -, -, -, -, -, -, hports⟩ := h
  exact (hports p).2.2.1

theorem port (p : Port) : s.port p = { PortRecord.reset with selLow := (s.port p).selLow } := by
  obtain ⟨-, -, -, -, -, -, -, -, hports⟩ := h
  exact (hports p).2.2.2

theorem portsFit : s.PortsFit := fun p => by
  rw [h.port p]
  exact ⟨Nat.zero_le _, Nat.zero_le _, Nat.zero_le _⟩

theorem eventsFit : s.EventsFit := fun p => (h.events p).symm ▸ queueFits_nil

theorem poolBalanced : s.PoolBalanced := by
  have hdepth : s.depthOf = fun _ => 0 := funext fun a => by simp [State.depthOf, h.acc a]
  refine ⟨?_, fun a => ?_⟩
  · rw [hdepth, h.pool]
    rfl
  · rw [hdepth]
    exact Nat.zero_le _

theorem historiesFit : s.HistoriesFit := fun a r hr => by
  rw [h.acc a] at hr
  cases hr

theorem sessionsFit : s.SessionsFit := fun p => by
  rw [h.session p, h.port p]
  refine ⟨⟨fun l hl => ?_, fun hopen => ?_, fun howed => ?_, fun hresponse => ?_⟩, fun _ => rfl, fun hholding => ?_⟩
  · cases hl
  · cases hopen
  · cases howed
  · cases hresponse
  · cases hholding

theorem closedQueuesEmpty : s.ClosedQueuesEmpty := fun p _ => ⟨fun _ => h.jobs p, fun _ => h.events p⟩

theorem standingSound : s.StandingSound := fun a r hr => by
  rw [h.acc a] at hr
  cases hr

theorem monitorsSound : s.MonitorsSound := fun i m hm => by
  rw [h.monitor i] at hm
  cases hm

theorem groupsSound : s.GroupsSound := fun g => by
  rw [h.group g]
  refine ⟨by decide, by decide, fun c hc => ?_, fun hdue => ?_, fun p hp => ?_⟩
  · cases hc
  · cases hdue
  · cases hp

theorem boundariesOnce : s.BoundariesOnce := by
  refine ⟨fun g _ => h.notice g, fun g b hb => ?_, fun g _ a b hb => ?_, fun a => ?_, fun a _ => h.claims a⟩
  · rw [h.notice g] at hb
    cases hb
  · rw [h.claims a] at hb
    cases hb
  · rw [h.claims a]
    exact List.nodup_nil

theorem jobsFit : s.JobsFit := fun p => by
  rw [h.jobs p]
  exact ⟨Nat.zero_le _, fun j hj => absurd hj List.not_mem_nil⟩

/-- A state at its reset values is sound, as far as it is in accord with RESETn. -/
theorem sound (hreset : s.HeldInReset) : s.Sound :=
  ⟨h.portsFit, h.eventsFit, h.poolBalanced, h.historiesFit, h.sessionsFit, h.closedQueuesEmpty, h.standingSound,
    h.monitorsSound, h.groupsSound, h.boundariesOnce, h.jobsFit, hreset⟩

end State.HasResetValues

/-- Settles O4: State.reset holds reset values, with RESETn high. -/
theorem resetIsSound : Obligations.ResetIsSound := State.reset_hasResetValues.sound fun hlow => by cases hlow

/-! ### The queue of commands -/

/-- Settles O1: the step, by the queue. -/
theorem stepRunsTheFrontCommand : Obligations.StepRunsTheFrontCommand := by
  refine ⟨fun c rest s h => ?_, fun s h => ?_⟩ <;> simp only [step, h]

/-! ### Effects of closes and jobs (R18 to R22, R60 to R67) -/

section
variable {s : State} {p : Port} {a : AccIx} {r r' : Accumulator}

/-- The events of a change and of the judgements on its values. -/
def State.judgedEvents (s : State) (es : Port → List EventRecord) (a : AccIx) (r : Accumulator) (live : Wide)
    (closed : Option Wide) (q : Port) : List EventRecord :=
  es q ++ s.thresholdNotices a (some r) live closed q

/-- A changed record whose values are handed over, as one post and one table of monitors. -/
theorem State.evaluate_posted_eq (es : Port → List EventRecord) (live : Wide) (closed : Option Wide) :
    ((s.setAcc a (some r')).posted es).evaluate a live closed =
      ((s.setAcc a (some r')).posted (s.judgedEvents es a r' live closed)).withMonitors (s.judgedMonitors a live closed) := by
  have hacc : ((s.setAcc a (some r')).posted es).acc a = some r' := s.setAcc_acc_self a _
  rw [State.evaluate_eq, hacc, State.posted_posted]
  rfl

theorem State.judgedEvents_unmarked {es : Port → List EventRecord} (hes : Unmarked es) (live : Wide) (closed : Option Wide) :
    Unmarked (s.judgedEvents es a r live closed) := hes.append (s.thresholdNotices_unmarked a _ _ _)

/-- WINDOW_CLOSED to the readers that asked for it (R20). -/
def Accumulator.closeNotices (r : Accumulator) (a : AccIx) (cause : Cause) (tick : Word32) : Port → List EventRecord :=
  toEach (fun q => (r.reader q).any (·.notify)) ⟨.windowClosed a r.openSequence cause.isManual, tick⟩

theorem Accumulator.closeNotices_unmarked (cause : Cause) (tick : Word32) : Unmarked (r.closeNotices a cause tick) :=
  unmarked_toEach _ rfl

/-- A close, as a changed record, one post and one table of monitors. -/
theorem State.closeWindow_eq (cause : Cause) (tick : Word32) : s.closeWindow a r cause tick =
    ((s.setAcc a (some (r.closed cause tick))).posted
      (s.judgedEvents (r.closeNotices a cause tick) a (r.closed cause tick) (r.closed cause tick).live
        (some r.live))).withMonitors (s.judgedMonitors a (r.closed cause tick).live (some r.live)) := by
  rw [← State.evaluate_posted_eq]
  unfold State.closeWindow Accumulator.notified
  dsimp only
  rw [State.postEach_filter]
  rfl

theorem State.closeWindow_effect (ha : s.acc a = some r) (hlast : r.openSequence ≠ Config.lastSequence) (cause : Cause)
    (tick : Word32) : s.Effect p (s.closeWindow a r cause tick) := by
  rw [State.closeWindow_eq]
  exact State.Effect.told (r' := r.closed cause tick) ha rfl (fun h => h.closed hlast cause tick) (fun _ h => h)
    (State.judgedEvents_unmarked (r.closeNotices_unmarked cause tick) _ _) (State.monitorsFollow_judged rfl _ _ fun _ h => h)

/-- A changed live value that is handed to the monitors. -/
theorem State.evaluate_effect (ha : s.acc a = some r) (hdepth : r'.depth = r.depth)
    (hhistory : r.HistoryFits → r'.HistoryFits) (hstanding : r.StandsIn s → r'.StandsIn s)
    (haccess : ∀ q, r.access q = true → r'.access q = true) (live : Wide) :
    s.Effect p ((s.setAcc a (some r')).evaluate a live none) := by
  have heq := State.evaluate_posted_eq (s := s) (a := a) (r' := r') (fun _ => []) live none
  rw [State.posted_nothing] at heq
  rw [heq]
  exact .told ha hdepth hhistory (fun _ => hstanding) (State.judgedEvents_unmarked unmarked_nothing _ _)
    (State.monitorsFollow_judged rfl _ _ haccess)

theorem State.applyJob_effect (ha : s.acc a = some r) (w : Work) : s.Effect p (s.applyJob a r w).1 := by
  cases w with
  | accumulate _ pairs negate _ =>
    simp only [State.applyJob]
    generalize partialOf r.policies.mode negate pairs = x
    exact State.evaluate_effect (r' := r.applyPartial x pairs.length) ha rfl (fun h => h) (fun h => h) (fun _ h => h) _
  | load _ v _ =>
    simp only [State.applyJob]
    exact State.evaluate_effect (r' := r.applyLoad v) ha rfl (fun h => h) (fun h => h) (fun _ h => h) _
  | close b =>
    by_cases hlast : r.openSequence = Config.lastSequence
    · have hclose : s.applyJob a r (.close b) = (s, .plain .sequenceLimit) := if_pos hlast
      rw [hclose]
      exact .nothing
    · have hclose : (s.applyJob a r (.close b)).1 = s.closeWindow a r .manual s.tick := by
        simp only [State.applyJob, if_neg hlast]
      rw [hclose]
      exact State.closeWindow_effect ha hlast _ _
  | fence => exact .nothing

/-- A job is applied to the record that its accumulator has, in its port's session. -/
theorem State.acc_of_judgeJob {j : Job} (h : s.judgeJob j = .apply a r) : s.acc a = some r := by
  unfold State.judgeJob at h
  repeat' split at h
  all_goals cases h
  assumption

/-- A job leaves no trace, or its port's session is OPEN and its completion is an effect. -/
theorem State.complete_effect (s : State) (j : Job) :
    s.complete j = s ∨ ((s.session j.port).isOpen = true ∧ s.Effect j.port (s.complete j)) := by
  by_cases hc : s.isCurrent j = true
  · obtain ⟨hopen, -⟩ := (s.isCurrent_iff j).mp hc
    refine .inr ⟨hopen, ?_⟩
    unfold State.complete
    cases hj : s.judgeJob j with
    | noTrace => exact .nothing
    | answer reply => exact State.Effect.nothing.reply
    | apply a r => exact (State.applyJob_effect (State.acc_of_judgeJob hj) j.work).reply
  · refine .inl ?_
    simp only [State.complete, State.judgeJob_noTrace (.inr hc)]

theorem exec_jobCompletion_of_some {j : Job} (h : s.running = some j) :
    exec .jobCompletion s = .next ((s.setRunning none).complete j) := by
  show execJobCompletion s = _
  simp only [execJobCompletion, h]

end

/-! ### The commands that are no requests -/

namespace State.Keeps

variable {s : State} {p : Port}

theorem setClaims (s : State) (a : AccIx) (l : List Boundary) : s.Keeps (s.setClaims a l) :=
  of_tables rfl rfl rfl rfl rfl rfl

theorem setSession (s : State) (p : Port) (r : Session) : s.Keeps (s.setSession p r) := of_tables rfl rfl rfl rfl rfl rfl

theorem leaseExpiry (s : State) (p : Port) : ∃ t, exec (.leaseExpiry p) s = .next t ∧ s.Keeps t := by
  cases howed : (s.session p).tickOwed with
  | false => exact ⟨_, exec_leaseExpiry_of_not_owed howed, refl s⟩
  | true =>
    cases hl : (s.session p).lease with
    | none => exact ⟨_, exec_leaseExpiry_of_closed howed hl, setSession s p _⟩
    | some l =>
      refine ⟨_, exec_leaseExpiry_of_open howed hl, ?_⟩
      split
      · exact afterEnd s p _ _
      · exact setSession s p _

theorem boundary (s : State) (g : GroupIx) : ∃ t, exec (.boundary g) s = .next t ∧ s.Keeps t := by
  refine ⟨_, exec_boundary g s, ?_⟩
  split_ifs
  · exact of_tables rfl rfl rfl rfl rfl rfl
  · exact of_tables rfl rfl rfl rfl rfl rfl
  · exact refl s

theorem boundaryNotice (s : State) (g : GroupIx) : ∃ t, exec (.boundaryNotice g) s = .next t ∧ s.Keeps t := by
  obtain ⟨htaken, hnone⟩ := boundaryNoticeFormsClaims g s
  cases hb : s.notice g with
  | none => exact ⟨_, hnone hb, refl s⟩
  | some b => exact ⟨_, htaken b hb, of_tables rfl rfl rfl rfl rfl rfl⟩

theorem closeClaim (s : State) (a : AccIx) : ∃ t, exec (.closeClaim a) s = .next t ∧ s.Keeps t := by
  cases hc : s.claims a with
  | nil => exact ⟨_, exec_closeClaim_of_none hc, refl s⟩
  | cons b rest =>
    cases ha : s.acc a with
    | none => exact ⟨_, exec_closeClaim_of_free hc ha, setClaims s a rest⟩
    | some r =>
      refine ⟨_, exec_closeClaim_of_inUse hc ha, ?_⟩
      split_ifs with hstale hlast
      · exact setClaims s a rest
      · exact setClaims s a rest
      · have hbelow : r.openSequence ≠ Config.lastSequence := mt (eq_lastSequence_iff _).mp hlast
        exact (setClaims s a rest).trans (of_effect (p := 0) (State.closeWindow_effect (by exact ha) hbelow _ _))

theorem transactionStart (s : State) (p : Port) : ∃ t, exec (.transactionStart p) s = .next t ∧ s.Keeps t := by
  cases hsel : (s.port p).selLow with
  | true => exact ⟨_, exec_transactionStart_of_low hsel, refl s⟩
  | false =>
    cases hlow : s.resetLow with
    | true => exact ⟨_, exec_transactionStart_of_reset hsel hlow, setPort fun h => h⟩
    | false =>
      refine ⟨_, exec_transactionStart_of_high hsel hlow, setPort fun h => ?_⟩
      obtain ⟨hrequests, hresponses, -⟩ := h
      exact ⟨hrequests, hresponses, Nat.zero_le _⟩

theorem idled (s : State) (p : Port) : s.Keeps (s.setPort p (s.port p).idled) := setPort fun h => h

theorem resync (s : State) (p : Port) : ∃ t, exec (.resync p) s = .next t ∧ s.Keeps t := by
  by_cases hother : (s.port p).framing = .idle ∨ s.judged p ≠ .resync
  · exact ⟨_, exec_resync_of_other hother, refl s⟩
  · obtain ⟨hnotIdle, hjudged⟩ := not_or.mp hother
    have hsel : (s.port p).framing = .selected := by
      cases hf : (s.port p).framing with
      | idle => exact absurd hf hnotIdle
      | selected => rfl
    cases hopen : (s.session p).isOpen with
    | true => exact ⟨_, exec_resync_of_open hsel (not_not.mp hjudged) hopen, (idled s p).trans (afterEnd _ p _ _)⟩
    | false =>
      refine ⟨_, exec_resync_of_closed hsel (not_not.mp hjudged) hopen,
        (setPort fun ⟨_, _, hkept⟩ => ?_).trans (setSession _ p _)⟩
      exact ⟨Nat.zero_le _, Nat.zero_le _, hkept⟩

theorem null (s : State) (p : Port) : ∃ t, exec (.null p) s = .next t ∧ s.Keeps t := by
  by_cases hother : (s.port p).framing = .idle ∨ s.judged p ≠ .null
  · exact ⟨_, exec_null_of_other hother, refl s⟩
  · obtain ⟨hnotIdle, hjudged⟩ := not_or.mp hother
    have hsel : (s.port p).framing = .selected := by
      cases hf : (s.port p).framing with
      | idle => exact absurd hf hnotIdle
      | selected => rfl
    exact ⟨_, exec_null_of_judged hsel (not_not.mp hjudged), (idled s p).trans (setSession _ p _)⟩

theorem transactionEnd (s : State) (p : Port) : ∃ t, exec (.transactionEnd p) s = .next t ∧ s.Keeps t := by
  cases hf : (s.port p).framing with
  | idle => exact ⟨_, exec_transactionEnd_of_idle hf, setPort fun h => h⟩
  | selected =>
    obtain ⟨-, hselected⟩ := transactionEndJudgesTheFrame p s
    obtain ⟨hnothing, hdropped, hnull, hresync, hoffered⟩ := hselected hf
    cases hj : s.judged p with
    | nothing => exact ⟨_, hnothing hj, idled s p⟩
    | dropped => exact ⟨_, hdropped hj, setPort fun h => h⟩
    | null => exact ⟨_, hnull hj, (idled s p).trans (setSession _ p _)⟩
    | resync => exact hresync hj ▸ resync s p
    | offered f =>
      refine ⟨_, hoffered f hj, ?_⟩
      split
      · next hroom =>
        obtain ⟨hrequests, hresponses⟩ := hroom
        refine (setPort fun ⟨_, _, hkept⟩ => ⟨?_, ?_, hkept⟩).trans (setSession _ p _)
        · simp only [List.length_append, List.length_singleton, Config.requestQueueLimit]
          omega
        · simp only [Config.responseLimit]
          omega
      · refine (setPort ?_).trans (setSession _ p _)
        exact fun h => h

theorem badKind (s : State) (p : Port) : ∃ t, exec (.badKind p) s = .next t ∧ s.Keeps t := by
  cases hq : (s.port p).requests with
  | nil => exact ⟨_, exec_badKind_of_empty hq, refl s⟩
  | cons f rest =>
    refine ⟨_, exec_badKind_of_head (f := f) (by rw [hq]; rfl), ?_⟩
    split
    · exact refl s
    · exact answered s p f _ _

theorem engineSessionEnd (s : State) (p : Port) : ∃ t, exec (.engineSessionEnd p) s = .next t ∧ s.Keeps t := by
  cases h : (s.session p).atEngine with
  | false => exact ⟨_, exec_engineSessionEnd_of_not_owed h, refl s⟩
  | true => exact ⟨_, exec_engineSessionEnd_of_owed h, of_tables rfl rfl rfl rfl rfl rfl⟩

theorem eventQueueSessionEnd (s : State) (p : Port) : ∃ t, exec (.eventQueueSessionEnd p) s = .next t ∧ s.Keeps t := by
  cases h : (s.session p).atEvents with
  | false => exact ⟨_, exec_eventQueueSessionEnd_of_not_owed h, refl s⟩
  | true => exact ⟨_, exec_eventQueueSessionEnd_of_owed h, (setSession s p _).trans (setEvents fun _ => queueFits_nil)⟩

theorem portSessionEnd (s : State) (p : Port) : ∃ t, exec (.portSessionEnd p) s = .next t ∧ s.Keeps t := by
  cases h : (s.session p).atPort with
  | false => exact ⟨_, exec_portSessionEnd_of_not_owed h, refl s⟩
  | true =>
    refine ⟨_, exec_portSessionEnd_of_owed h, (setSession s p _).trans (setPort fun ⟨_, _, hkept⟩ => ?_)⟩
    refine ⟨Nat.zero_le _, ?_, hkept⟩
    cases (s.session p).closeResponse <;> simp

theorem jobCompletion (s : State) : ∃ t, exec .jobCompletion s = .next t ∧ s.Keeps t := by
  cases h : s.running with
  | none => exact ⟨_, exec_jobCompletion_of_none h, refl s⟩
  | some j =>
    have hidle : s.Keeps (s.setRunning none) := of_tables rfl rfl rfl rfl rfl rfl
    refine ⟨_, exec_jobCompletion_of_some h, hidle.trans ?_⟩
    obtain heq | ⟨-, heffect⟩ := (s.setRunning none).complete_effect j
    · rw [heq]
      exact refl _
    · exact of_effect heffect

theorem byteShifted (s : State) (p : Port) (b : Byte) : ∃ t, exec (.byteShifted p b) s = .next t ∧ s.Keeps t := by
  cases hf : (s.port p).framing with
  | idle => exact ⟨_, exec_byteShifted_of_idle b hf, refl s⟩
  | selected =>
    refine ⟨_, exec_byteShifted_of_selected b hf, setPort fun ⟨hrequests, hresponses, hkept⟩ => ⟨hrequests, ?_, ?_⟩⟩
    · have hleft : ((s.port p).shiftByte b).responses.length ≤ (s.port p).responses.length := by
        show (if (s.port p).deliversNow then (s.port p).responses.tail else (s.port p).responses).length ≤ _
        split <;> simp
      exact (Nat.add_le_add_left hleft _).trans hresponses
    · have h140 : (s.port p).kept.length ≤ 140 := hkept
      rw [PortRecord.shiftByte_kept, List.length_take, Nat.max_eq_left h140]
      exact Nat.min_le_left _ _

end State.Keeps

/-- Every command but the two of RESETn answers a next state that keeps what `State.Keeps` names. -/
theorem exec_keeps (s : State) : ∀ c : Instr, c ≠ .deviceReset → c ≠ .resetnReturnsHigh → ∃ t, exec c s = .next t ∧ s.Keeps t :=
  Instr.forall_of_requests (fun k p _ _ => State.Keeps.request k p s) (fun h => absurd rfl h) (fun _ h => absurd rfl h)
    (fun _ _ => ⟨_, exec_tick s, by
      split
      · exact .of_tables rfl rfl rfl rfl rfl rfl
      · exact .refl s⟩)
    (fun p _ _ => State.Keeps.leaseExpiry s p) (fun g _ _ => State.Keeps.boundary s g)
    (fun g _ _ => State.Keeps.boundaryNotice s g) (fun a _ _ => State.Keeps.closeClaim s a)
    (fun p _ _ => State.Keeps.transactionStart s p) (fun p _ _ => State.Keeps.transactionEnd s p)
    (fun p _ _ => State.Keeps.null s p) (fun p _ _ => State.Keeps.resync s p) (fun p _ _ => State.Keeps.badKind s p)
    (fun p _ _ => State.Keeps.engineSessionEnd s p) (fun p _ _ => State.Keeps.eventQueueSessionEnd s p)
    (fun p _ _ => State.Keeps.portSessionEnd s p) (fun _ _ => ⟨_, exec_grant s, .makeGrant s⟩)
    (fun _ _ => State.Keeps.jobCompletion s) (fun p b _ _ => State.Keeps.byteShifted s p b)

/-- What every command keeps, those of RESETn too. -/
structure State.KeepsLimits (s t : State) : Prop where
  pending : t.pending = s.pending
  ports : s.PortsFit → t.PortsFit
  events : s.EventsFit → t.EventsFit
  pool : s.PoolBalanced → t.PoolBalanced
  histories : s.HistoriesFit → t.HistoriesFit

theorem State.Keeps.limits {s t : State} (h : s.Keeps t) : s.KeepsLimits t := ⟨h.pending, h.ports, h.events, h.pool, h.histories⟩

theorem exec_keepsLimits (c : Instr) (s : State) : ∃ t, exec c s = .next t ∧ s.KeepsLimits t := by
  by_cases hreset : c = .deviceReset
  · subst hreset
    have hvalues := s.atReset_hasResetValues true
    exact ⟨_, exec_deviceReset s, rfl, fun _ => hvalues.portsFit, fun _ => hvalues.eventsFit,
      fun _ => hvalues.poolBalanced, fun _ => hvalues.historiesFit⟩
  · by_cases hhigh : c = .resetnReturnsHigh
    · subst hhigh
      cases hlow : s.resetLow with
      | true => exact ⟨_, exec_resetnReturnsHigh_of_low hlow, rfl, fun h => h, fun h => h, fun h => h, fun h => h⟩
      | false => exact ⟨_, exec_resetnReturnsHigh_of_high hlow, (State.Keeps.refl s).limits⟩
    · obtain ⟨t, ht, hkeeps⟩ := exec_keeps s c hreset hhigh
      exact ⟨t, ht, hkeeps.limits⟩

/-- Settles O2: every command is one of those that keep the queue of commands. -/
theorem everyCommandAnswersNext : Obligations.EveryCommandAnswersNext := fun c s =>
  have ⟨t, ht, hkeeps⟩ := exec_keepsLimits c s
  ⟨t, ht, hkeeps.pending⟩

/-- A step idles, or is a command on the state with the rest of the queue. -/
theorem step_cases {s t : State} (h : step s = .next t) :
    t = s ∨ ∃ c rest, s.pending = c :: rest ∧ exec c (s.setPending rest) = .next t := by
  unfold step at h
  split at h
  · exact .inl (Host.Outcome.next.inj h).symm
  · next c rest hpending => exact .inr ⟨c, rest, hpending, h⟩

theorem step_keepsLimits {s t : State} (h : step s = .next t) :
    (s.PortsFit → t.PortsFit) ∧ (s.EventsFit → t.EventsFit) ∧ (s.PoolBalanced → t.PoolBalanced) ∧
      (s.HistoriesFit → t.HistoriesFit) := by
  obtain rfl | ⟨c, rest, -, hexec⟩ := step_cases h
  · exact ⟨id, id, id, id⟩
  · obtain ⟨t', ht', hkeeps⟩ := exec_keepsLimits c (s.setPending rest)
    obtain rfl : t' = t := Host.Outcome.next.inj (ht'.symm.trans hexec)
    exact ⟨hkeeps.ports, hkeeps.events, hkeeps.pool, hkeeps.histories⟩

/-- Settles O6. -/
theorem stepKeepsPortLimits : Obligations.StepKeepsPortLimits := fun _ _ hs h =>
  have ⟨hports, _, _, _⟩ := step_keepsLimits h
  hports hs

/-- Settles O7. -/
theorem stepKeepsEventQueueShape : Obligations.StepKeepsEventQueueShape := fun _ _ hs h =>
  have ⟨_, hevents, _, _⟩ := step_keepsLimits h
  hevents hs

/-- Settles O8. -/
theorem stepKeepsPoolTotal : Obligations.StepKeepsPoolTotal := fun _ _ hs h =>
  have ⟨_, _, hpool, _⟩ := step_keepsLimits h
  hpool hs

/-- Settles O9. -/
theorem stepKeepsHistories : Obligations.StepKeepsHistories := fun _ _ hs h =>
  have ⟨_, _, _, hhistories⟩ := step_keepsLimits h
  hhistories hs

end Sys2Proof.Machine
end

section
/-! PROOF. RESETn held low (O11), and the spelling of commands (O3). -/

namespace Sys2Proof.Machine

/-! ### RESETn low (R188) -/

theorem State.setPort_of_port {s : State} {p : Port} {r : PortRecord} (h : s.port p = r) : s.setPort p r = s := by
  unfold State.setPort
  rw [← h, State.port, withEntry_entry_self]

theorem State.HeldInReset.hasResetValues {s : State} (h : s.HeldInReset) (hlow : s.resetLow = true) : s.HasResetValues :=
  h hlow ▸ s.atReset_hasResetValues true

section
variable {s : State} (h : s.HasResetValues) (p : Port)
include h

theorem State.HasResetValues.requests : (s.port p).requests = [] := by rw [h.port p]; rfl

theorem State.HasResetValues.framing : (s.port p).framing = .idle := by rw [h.port p]; rfl

/-- No request is served while every request queue is empty. -/
theorem State.HasResetValues.exec_request (k : Kind) : exec (k.command p) s = .next s := by
  obtain ⟨α, operands, ready, take, -, hexec⟩ := k.served
  rw [hexec, State.serve_of_ne]
  intro f hf
  obtain ⟨hhead, -⟩ := hf
  rw [h.requests p] at hhead
  cases hhead

end

/-- Commands that find nothing to do at reset values and RESETn low. -/
theorem State.HeldInReset.exec_eq {s : State} (hheld : s.HeldInReset) (hlow : s.resetLow = true) : ∀ c : Instr,
    (∀ p, c ≠ .transactionStart p ∧ c ≠ .transactionEnd p) → c ≠ .resetnReturnsHigh → exec c s = .next s := by
  have h := hheld.hasResetValues hlow
  have hsession := h.session
  refine Instr.forall_of_requests (fun k p _ _ => h.exec_request p k) (fun _ _ => ?deviceReset) (fun _ hne => absurd rfl hne)
    (fun _ _ => ?tick) (fun p _ _ => exec_leaseExpiry_of_not_owed (by rw [hsession p]; rfl)) (fun g _ _ => ?boundary)
    (fun g _ _ => ?notice) (fun a _ _ => exec_closeClaim_of_none (h.claims a))
    (fun p hne _ => ?start) (fun p hne _ => ?ends)
    (fun p _ _ => exec_null_of_other (.inl (h.framing p))) (fun p _ _ => exec_resync_of_other (.inl (h.framing p)))
    (fun p _ _ => exec_badKind_of_empty (h.requests p))
    (fun p _ _ => exec_engineSessionEnd_of_not_owed (by rw [hsession p]; rfl))
    (fun p _ _ => exec_eventQueueSessionEnd_of_not_owed (by rw [hsession p]; rfl))
    (fun p _ _ => exec_portSessionEnd_of_not_owed (by rw [hsession p]; rfl)) (fun _ _ => ?grant)
    (fun _ _ => exec_jobCompletion_of_none h.running) (fun p b _ _ => exec_byteShifted_of_idle b (h.framing p))
  case deviceReset => rw [exec_deviceReset, ← hheld hlow]
  case tick =>
    have hwait : ¬ s.tickReady = true := by simp [State.tickReady, hlow]
    rw [exec_tick, if_neg hwait]
  case boundary =>
    obtain ⟨-, -, hnotDue⟩ := boundaryReloadsAndHandsOver g s
    exact hnotDue (by rw [h.group g]; rfl)
  case notice =>
    obtain ⟨-, hnone⟩ := boundaryNoticeFormsClaims g s
    exact hnone (h.notice g)
  case start =>
    obtain ⟨hstart, -⟩ := hne p
    exact absurd rfl hstart
  case ends =>
    obtain ⟨-, hend⟩ := hne p
    exact absurd rfl hend
  case grant => rw [exec_grant, State.makeGrant_of_none (.inr h.jobs)]

theorem State.HeldInReset.exec_transactionStart {s : State} (hlow : s.resetLow = true) (p : Port) :
    exec (.transactionStart p) s = .next (s.setPort p { s.port p with selLow := true }) := by
  cases hsel : (s.port p).selLow with
  | true =>
    have hsame : s.port p = { s.port p with selLow := true } := by rw [← hsel]
    rw [exec_transactionStart_of_low hsel, State.setPort_of_port hsame]
  | false => exact exec_transactionStart_of_reset hsel hlow

/-- Settles O11: the levels of the SELn pins, and the commands that find nothing to do. -/
theorem nothingMovesWhileResetnLow : Obligations.NothingMovesWhileResetnLow := fun _ hheld hlow =>
  ⟨State.HeldInReset.exec_transactionStart hlow,
    fun p => exec_transactionEnd_of_idle ((hheld.hasResetValues hlow).framing p), hheld.exec_eq hlow⟩

/-! ### The spelling (log entry 2) -/

theorem Instr.command?_raw (i : Instr) : i.raw.command? = some i := by
  cases i with
  | deviceReset | tick | grant | jobCompletion | resetnReturnsHigh => rfl
  | byteShifted p b => exact spelled_pair p b
  | leaseExpiry i | boundary i | boundaryNotice i | closeClaim i | transactionStart i | transactionEnd i | null i
  | resync i | badKind i | openSession i | closeSession i | portStatus i | engineSessionEnd i | eventQueueSessionEnd i
  | portSessionEnd i | accCreate i | accConfigure i | accRelease i | accInfo i | accGrant i | accOffer i | accAccept i
  | accClaim i | subscribe i | unsubscribe i | accumulate i | load i | closeWindow i | fence i | jobCancel i | readLive i
  | readHistory i | readRecord i | historyResize i | groupClaim i | groupSet i | groupStart i | groupStop i
  | groupRelease i | groupInfo i | monCreate i | monAttach i | monFree i | monInfo i | eventFetch i =>
    exact spelled_index i

theorem indexBelow_eq_some {n k : Nat} {i : Fin n} (h : indexBelow n k = some i) : i.val = k := by
  unfold indexBelow at h
  split at h
  · exact Option.some.inj h ▸ rfl
  · cases h

theorem byteOf_eq_some {k : Nat} {b : Byte} (h : byteOf k = some b) : b.toNat = k := by
  unfold byteOf at h
  split at h
  · exact Option.some.inj h ▸ BitVec.toNat_ofNatLT ..
  · cases h

/-- A row with one index: the operand that spells it is the index. -/
theorem raw_of_spelled_index {n k row : Nat} {f : Fin n → Instr} {i : Instr} (hf : ∀ x, (f x).raw = ⟨row, [x.val]⟩)
    (h : (indexBelow n k).map f = some i) : i.raw = ⟨row, [k]⟩ := by
  obtain ⟨x, hx, rfl⟩ := Option.map_eq_some_iff.mp h
  rw [hf, indexBelow_eq_some hx]

/-- A row with an index and a byte. -/
theorem raw_of_spelled_pair {n k l row : Nat} {f : Fin n → Byte → Instr} {i : Instr}
    (hf : ∀ x b, (f x b).raw = ⟨row, [x.val, b.toNat]⟩)
    (h : ((indexBelow n k).bind fun x => (byteOf l).map (f x)) = some i) : i.raw = ⟨row, [k, l]⟩ := by
  obtain ⟨x, hx, hmap⟩ := Option.bind_eq_some_iff.mp h
  obtain ⟨b, hb, rfl⟩ := Option.map_eq_some_iff.mp hmap
  rw [hf, indexBelow_eq_some hx, byteOf_eq_some hb]

/-- A row spelled without operands is one of the five that have none. -/
theorem raw_of_spelled_none {i : Instr} : ∀ row, RawCommand.command? ⟨row, []⟩ = some i → i.raw = ⟨row, []⟩
  | 0 | 1 | 31 | 32 | 50 => fun h => Option.some.inj h ▸ rfl
  | 2 | 3 | 4 | 5 | 6 | 7 | 8 | 9 | 10 | 11 | 12 | 13 | 14 | 15 | 16 | 17 | 18 | 19 | 20 | 21 | 22 | 23 | 24 | 25
  | 26 | 27 | 28 | 29 | 30 | 33 | 34 | 35 | 36 | 37 | 38 | 39 | 40 | 41 | 42 | 43 | 44 | 45 | 46 | 47 | 48 | 49
  | _ + 51 =>
    fun h => nomatch h

/-- A row spelled with one operand has one index. -/
theorem raw_of_spelled_one {x : Nat} {i : Instr} : ∀ row, RawCommand.command? ⟨row, [x]⟩ = some i → i.raw = ⟨row, [x]⟩
  | 0 | 1 | 31 | 32 | 49 | 50 | _ + 51 => fun h => nomatch h
  | 2 | 3 | 4 | 5 | 6 | 7 | 8 | 9 | 10 | 11 | 12 | 13 | 14 | 15 | 16 | 17 | 18 | 19 | 20 | 21 | 22 | 23 | 24 | 25
  | 26 | 27 | 28 | 29 | 30 | 33 | 34 | 35 | 36 | 37 | 38 | 39 | 40 | 41 | 42 | 43 | 44 | 45 | 46 | 47 | 48 =>
    raw_of_spelled_index fun _ => rfl

/-- A row spelled with two operands is BYTE_SHIFTED's. -/
theorem raw_of_spelled_two {x y : Nat} {i : Instr} :
    ∀ row, RawCommand.command? ⟨row, [x, y]⟩ = some i → i.raw = ⟨row, [x, y]⟩
  | 49 => raw_of_spelled_pair fun _ _ => rfl
  | 0 | 1 | 2 | 3 | 4 | 5 | 6 | 7 | 8 | 9 | 10 | 11 | 12 | 13 | 14 | 15 | 16 | 17 | 18 | 19 | 20 | 21 | 22 | 23 | 24
  | 25 | 26 | 27 | 28 | 29 | 30 | 31 | 32 | 33 | 34 | 35 | 36 | 37 | 38 | 39 | 40 | 41 | 42 | 43 | 44 | 45 | 46 | 47
  | 48 | 50 | _ + 51 =>
    fun h => nomatch h

/-- No row has more operands. -/
theorem command?_of_more {x y z : Nat} {l : List Nat} : ∀ row, RawCommand.command? ⟨row, x :: y :: z :: l⟩ = none
  | 0 | 1 | 2 | 3 | 4 | 5 | 6 | 7 | 8 | 9 | 10 | 11 | 12 | 13 | 14 | 15 | 16 | 17 | 18 | 19 | 20 | 21 | 22 | 23 | 24
  | 25 | 26 | 27 | 28 | 29 | 30 | 31 | 32 | 33 | 34 | 35 | 36 | 37 | 38 | 39 | 40 | 41 | 42 | 43 | 44 | 45 | 46 | 47
  | 48 | 49 | 50 | _ + 51 =>
    rfl

/-- Settles O3: a command's numbers spell it; and by the number of operands, numbers that spell a command are its own. -/
theorem spellingsAreExact : Obligations.SpellingsAreExact := by
  refine ⟨Instr.command?_raw, fun ⟨row, operands⟩ i h => ?_⟩
  match operands, h with
  | [], h => exact raw_of_spelled_none row h
  | [_], h => exact raw_of_spelled_one row h
  | [_, _], h => exact raw_of_spelled_two row h
  | _ :: _ :: _ :: _, h =>
    rw [command?_of_more] at h
    cases h

end Sys2Proof.Machine
end

section
/-! PROOF. Soundness, part by part (O5): the properties that couple several tables, and the changes that keep them. -/

namespace Sys2Proof.Machine

/-- The properties of a sound state that speak of several tables at once; ports, event queues, pool and histories, each a
property of one table, are kept by themselves (O6 to O9). -/
structure State.Coupled (s : State) : Prop where
  sessions : s.SessionsFit
  queues : s.ClosedQueuesEmpty
  standing : s.StandingSound
  monitors : s.MonitorsSound
  groups : s.GroupsSound
  boundaries : s.BoundariesOnce
  jobs : s.JobsFit

/-! ### Clauses of the properties, record by record -/

section
variable {s t : State}

/-- A record's standing is kept while every OPEN session stays OPEN. -/
theorem Accumulator.StandsIn.mono {r : Accumulator} (h : r.StandsIn s)
    (hopen : ∀ q, (s.session q).isOpen = true → (t.session q).isOpen = true) : r.StandsIn t := by
  obtain ⟨howner, hcontributors, hreaders, hoffer⟩ := h
  exact ⟨fun p hp => (howner p hp).imp_left (hopen p), fun p hp => hopen p (hcontributors p hp),
    fun p hp => hopen p (hreaders p hp), fun o ho => (hoffer o ho).imp_left (hopen o.port)⟩

/-- A monitor's clauses in a state: an OPEN owner, defined bounds and, while ARMED, access to a record in use. -/
def Monitor.SoundIn (m : Monitor) (s : State) : Prop :=
  (s.session m.owner).isOpen = true ∧ boundsDefined m.config.low m.config.high m.config.hysteresis = true ∧
  (m.armed = true → ∃ r, s.acc m.acc = some r ∧ r.access m.owner = true)

theorem State.monitorsSound_iff : s.MonitorsSound ↔ ∀ i m, s.monitor i = some m → m.SoundIn s := Iff.rfl

theorem State.groupsSound_iff : s.GroupsSound ↔
    ∀ g, (s.group g).Fits ∧ ∀ p, (s.group g).owner = some p → (s.session p).isOpen = true :=
  forall_congr' fun g => by
    unfold Group.Fits
    tauto

/-- Boundaries stay once while claims are only taken away, and a record that becomes FREE holds none. -/
theorem State.BoundariesOnce.of_sublist (h : s.BoundariesOnce)
    (hdue : ∀ g, (t.group g).boundaryDue = (s.group g).boundaryDue) (hnotice : ∀ g, t.notice g = s.notice g)
    (hclaims : ∀ a, (t.claims a).Sublist (s.claims a)) (hfree : ∀ a, t.acc a = none → t.claims a = []) :
    t.BoundariesOnce := by
  obtain ⟨hnone, hgroup, hunder, hnodup, -⟩ := h
  refine ⟨fun g hg => ?_, fun g b hb => ?_, fun g hg a b hb => ?_, fun a => ?_, hfree⟩
  · rw [hnotice]
    exact hnone g (hdue g ▸ hg)
  · exact hgroup g b (hnotice g ▸ hb)
  · rw [hdue, hnotice] at hg
    exact hunder g hg a b ((hclaims a).mem hb)
  · exact ((hclaims a).map _).nodup (hnodup a)

/-- Posts reach OPEN ports alone, so a CLOSED port's queues stay empty (R149). -/
theorem State.ClosedQueuesEmpty.posted (h : s.ClosedQueuesEmpty) (es : Port → List EventRecord) :
    (s.posted es).ClosedQueuesEmpty := fun q hclosed => by
  have hsession : (s.session q).isOpen = false := hclosed
  obtain ⟨hjobs, hevents⟩ := h q hsession
  refine ⟨hjobs, fun hat => ?_⟩
  rw [State.posted_events, hsession]
  exact hevents hat

end

namespace State.Coupled

variable {s t : State} {p : Port}

/-! ### One table changed -/

/-- A port record changed: EXPIRED stays clear in OPEN, and a CLOSED port's decoder holds at most an OPEN. -/
theorem setPort (h : s.Coupled) {r : PortRecord} (hexpired : (s.session p).isOpen = true → r.expired = false)
    (hholding : r.holding = true → (s.session p).isOpen = true ∨
      r.requests.head?.any (fun f => f.kind == Kind.openSession.code) = true) : (s.setPort p r).Coupled := by
  refine ⟨fun q => ?_, h.queues, h.standing, h.monitors, h.groups, h.boundaries, h.jobs⟩
  obtain ⟨hfits, hq, hqholding⟩ := h.sessions q
  by_cases hqp : q = p
  · subst hqp
    rw [State.setPort_port_self]
    exact ⟨hfits, hexpired, hholding⟩
  · rw [State.setPort_port_ne _ _ hqp]
    exact ⟨hfits, hq, hqholding⟩

/-- A port record changed in what the decoder and the session timer do not look at. -/
theorem setPort_same (h : s.Coupled) {r : PortRecord} (hexpired : r.expired = (s.port p).expired)
    (hholding : r.holding = (s.port p).holding) (hrequests : r.requests = (s.port p).requests) : (s.setPort p r).Coupled := by
  obtain ⟨-, hexpiry, hheld⟩ := h.sessions p
  exact h.setPort (by rwa [hexpired]) (by rwa [hholding, hrequests])

/-- A port record changed so that its decoder is free. -/
theorem setPort_free (h : s.Coupled) {r : PortRecord} (hexpired : r.expired = (s.port p).expired)
    (hholding : r.holding = false) : (s.setPort p r).Coupled := by
  obtain ⟨-, hexpiry, -⟩ := h.sessions p
  exact h.setPort (by rwa [hexpired]) fun hheld => absurd (hholding.symm.trans hheld) Bool.false_ne_true

/-- A session record changed that stays OPEN where it was. -/
theorem setSession (h : s.Coupled) {r : Session} (hfits : r.Fits)
    (hopen : (s.session p).isOpen = true → r.isOpen = true) (hexpired : r.isOpen = true → (s.port p).expired = false)
    (hqueues : r.isOpen = false → (r.atEngine = false → s.jobs p = []) ∧ (r.atEvents = false → s.events p = [])) :
    (s.setSession p r).Coupled := by
  have hmono : ∀ q, (s.session q).isOpen = true → ((s.setSession p r).session q).isOpen = true := fun q hq => by
    by_cases hqp : q = p
    · subst hqp
      rw [State.setSession_session_self]
      exact hopen hq
    · rwa [State.setSession_session_ne _ _ hqp]
  refine ⟨fun q => ?_, fun q => ?_, fun a x ha => Accumulator.StandsIn.mono (h.standing a x ha) hmono, fun i m hm => ?_,
    State.groupsSound_iff.mpr fun g => ?_, h.boundaries, h.jobs⟩
  · obtain ⟨hqfits, hqexpired, hqholding⟩ := h.sessions q
    by_cases hqp : q = p
    · subst hqp
      rw [State.setSession_session_self]
      exact ⟨hfits, hexpired, fun hheld => (hqholding hheld).imp_left hopen⟩
    · rw [State.setSession_session_ne _ _ hqp]
      exact ⟨hqfits, hqexpired, hqholding⟩
  · by_cases hqp : q = p
    · subst hqp
      rw [State.setSession_session_self]
      exact hqueues
    · rw [State.setSession_session_ne _ _ hqp]
      exact h.queues q
  · obtain ⟨howner, hrest⟩ := h.monitors i m hm
    exact ⟨hmono _ howner, hrest⟩
  · obtain ⟨hfitsGroup, howner⟩ := State.groupsSound_iff.mp h.groups g
    exact ⟨hfitsGroup, fun q hq => hmono q (howner q hq)⟩

/-- A session record changed in its lease's length of time, or in what no other table looks at. -/
theorem setSession_same (h : s.Coupled) {r : Session} (hfits : r.Fits) (hopen : r.isOpen = (s.session p).isOpen)
    (hengine : r.atEngine = (s.session p).atEngine) (hevents : r.atEvents = (s.session p).atEvents) :
    (s.setSession p r).Coupled := by
  obtain ⟨-, hexpired, -⟩ := h.sessions p
  refine h.setSession hfits (fun ho => hopen.trans ho) (hopen ▸ hexpired) ?_
  rw [hopen, hengine, hevents]
  exact h.queues p

theorem setClaims (h : s.Coupled) {a : AccIx} {l : List Boundary} (hsub : l.Sublist (s.claims a)) :
    (s.setClaims a l).Coupled := by
  refine ⟨h.sessions, h.queues, h.standing, h.monitors, h.groups, h.boundaries.of_sublist (fun _ => rfl) (fun _ => rfl)
    (fun k => ?_) fun k hk => ?_, h.jobs⟩
  · rw [State.setClaims_claims]
    split
    · next hka => exact hka ▸ hsub
    · exact List.Sublist.refl _
  · obtain ⟨-, -, -, -, hfree⟩ := h.boundaries
    have hnone := hfree k hk
    rw [State.setClaims_claims]
    split
    · next hka =>
      subst hka
      rw [hnone] at hsub
      exact List.sublist_nil.mp hsub
    · exact hnone

theorem setMonitor (h : s.Coupled) {i : MonIx} {x : Option Monitor} (hx : ∀ m, x = some m → m.SoundIn s) :
    (s.setMonitor i x).Coupled := by
  refine ⟨h.sessions, h.queues, h.standing, fun k m hm => ?_, h.groups, h.boundaries, h.jobs⟩
  by_cases hki : k = i
  · subst hki
    rw [State.setMonitor_monitor_self] at hm
    exact hx m hm
  · rw [State.setMonitor_monitor_ne _ _ hki] at hm
    exact h.monitors k m hm

theorem setGroup (h : s.Coupled) {g : GroupIx} {r : Group} (hfits : r.Fits)
    (howner : ∀ q, r.owner = some q → (s.session q).isOpen = true) (hdue : r.boundaryDue = (s.group g).boundaryDue) :
    (s.setGroup g r).Coupled := by
  refine ⟨h.sessions, h.queues, h.standing, h.monitors, State.groupsSound_iff.mpr fun k => ?_,
    h.boundaries.of_sublist (fun k => ?_) (fun _ => rfl) (fun _ => List.Sublist.refl _) ?_, h.jobs⟩
  · by_cases hkg : k = g
    · subst hkg
      rw [State.setGroup_group_self]
      exact ⟨hfits, howner⟩
    · rw [State.setGroup_group_ne _ _ hkg]
      exact State.groupsSound_iff.mp h.groups k
  · by_cases hkg : k = g
    · subst hkg
      rw [State.setGroup_group_self, hdue]
    · rw [State.setGroup_group_ne _ _ hkg]
  · obtain ⟨-, -, -, -, hfree⟩ := h.boundaries
    exact hfree

/-- A job queue whose jobs are its port's and unmarked; with a CLOSED session it may only lose jobs. -/
theorem setJobs (h : s.Coupled) {l : List Job} (hlength : l.length ≤ 4) (hjobs : ∀ j ∈ l, j.port = p ∧ j.mark = .none)
    (hclosed : (s.session p).isOpen = false → (s.session p).atEngine = false → l = []) : (s.setJobs p l).Coupled := by
  refine ⟨h.sessions, fun q hq => ?_, h.standing, h.monitors, h.groups, h.boundaries, fun q => ?_⟩
  · obtain ⟨hqjobs, hqevents⟩ := h.queues q hq
    refine ⟨fun hat => ?_, hqevents⟩
    by_cases hqp : q = p
    · subst hqp
      rw [State.setJobs_jobs_self]
      exact hclosed hq hat
    · rw [State.setJobs_jobs_ne _ _ hqp]
      exact hqjobs hat
  · by_cases hqp : q = p
    · subst hqp
      rw [State.setJobs_jobs_self]
      exact ⟨hlength, hjobs⟩
    · rw [State.setJobs_jobs_ne _ _ hqp]
      exact h.jobs q

/-- Jobs taken from a queue. -/
theorem setJobs_sublist (h : s.Coupled) {l : List Job} (hsub : l.Sublist (s.jobs p)) : (s.setJobs p l).Coupled := by
  obtain ⟨hlength, hjobs⟩ := h.jobs p
  refine h.setJobs (hsub.length_le.trans hlength) (fun j hj => hjobs j (hsub.mem hj)) fun hclosed hat => ?_
  obtain ⟨hempty, -⟩ := h.queues p hclosed
  rw [hempty hat] at hsub
  exact List.sublist_nil.mp hsub

/-- Event records taken from a queue. -/
theorem setEvents_sublist (h : s.Coupled) {l : List EventRecord} (hsub : l.Sublist (s.events p)) :
    (s.setEvents p l).Coupled := by
  refine ⟨h.sessions, fun q hq => ?_, h.standing, h.monitors, h.groups, h.boundaries, h.jobs⟩
  obtain ⟨hqjobs, hqevents⟩ := h.queues q hq
  refine ⟨hqjobs, fun hat => ?_⟩
  by_cases hqp : q = p
  · subst hqp
    rw [hqevents hat] at hsub
    rw [State.setEvents_events_self]
    exact List.sublist_nil.mp hsub
  · rw [State.setEvents_events_ne _ _ hqp]
    exact hqevents hat

theorem setRunning (h : s.Coupled) (j : Option Job) : (s.setRunning j).Coupled :=
  ⟨h.sessions, h.queues, h.standing, h.monitors, h.groups, h.boundaries, h.jobs⟩

theorem setPending (h : s.Coupled) (l : List Instr) : (s.setPending l).Coupled :=
  ⟨h.sessions, h.queues, h.standing, h.monitors, h.groups, h.boundaries, h.jobs⟩

theorem makeGrant (h : s.Coupled) : s.makeGrant.Coupled := by
  unfold State.makeGrant
  split
  · next q _ _ =>
    have hgranted := (h.setJobs_sublist (List.tail_sublist (s.jobs q))).setRunning (s.jobs q).head?
    exact ⟨hgranted.sessions, hgranted.queues, hgranted.standing, hgranted.monitors, hgranted.groups,
      hgranted.boundaries, hgranted.jobs⟩
  · exact h

/-! ### A record of an accumulator with its monitors -/

/-- A record changed in its standing and its access, with posts and a monitor table that follows (R46). -/
theorem changed (h : s.Coupled) {a : AccIx} {r r' : Accumulator} {v : Vector (Option Monitor) 16} (ha : s.acc a = some r)
    (hstanding : r.StandsIn s → r'.StandsIn s) (hv : s.MonitorsFollow a r r' v) (n : Nat)
    (es : Port → List EventRecord) : ((((s.setPool n).setAcc a (some r')).posted es).withMonitors v).Coupled := by
  have hself : (s.setAcc a (some r')).acc a = some r' := s.setAcc_acc_self a _
  have hother : ∀ {k}, k ≠ a → (s.setAcc a (some r')).acc k = s.acc k := fun hk => s.setAcc_acc_ne _ hk
  refine ⟨h.sessions, State.ClosedQueuesEmpty.posted (s := (s.setPool n).setAcc a (some r')) h.queues es,
    fun k x hk => ?_, fun i m hm => ?_, h.groups, h.boundaries.of_sublist (fun _ => rfl) (fun _ => rfl)
      (fun _ => List.Sublist.refl _) fun k hk => ?_, h.jobs⟩
  · have hk : (s.setAcc a (some r')).acc k = some x := hk
    by_cases hka : k = a
    · subst hka
      obtain rfl := Option.some.inj (hself.symm.trans hk)
      exact hstanding (h.standing k r ha)
    · exact h.standing k x ((hother hka).symm.trans hk)
  · obtain ⟨m₀, hm₀, howner, hacc, hconfig, harmed⟩ := hv i m hm
    obtain ⟨hopen, hbounds, hrecord⟩ := h.monitors i m₀ hm₀
    rw [howner, hconfig]
    refine ⟨hopen, hbounds, fun harmed' => ?_⟩
    obtain ⟨harmed₀, haccess⟩ := harmed harmed'
    obtain ⟨r₀, hr₀, haccess₀⟩ := hrecord harmed₀
    by_cases hka : m₀.acc = a
    · obtain rfl : r₀ = r := Option.some.inj (hr₀.symm.trans (hka ▸ ha))
      refine ⟨r', ?_, haccess hka haccess₀⟩
      rw [hacc, hka]
      exact hself
    · refine ⟨r₀, ?_, haccess₀⟩
      rw [hacc]
      exact (hother hka).trans hr₀
  · have hk : (s.setAcc a (some r')).acc k = none := hk
    obtain ⟨-, -, -, -, hfree⟩ := h.boundaries
    by_cases hka : k = a
    · subst hka
      cases hself.symm.trans hk
    · exact hfree k ((hother hka).symm.trans hk)

/-- A FREE record taken by a port in OPEN. -/
theorem created (h : s.Coupled) {a : AccIx} {r : Accumulator} (ha : s.acc a = none) (hstands : r.StandsIn s) (n : Nat) :
    ((s.setPool n).setAcc a (some r)).Coupled := by
  have hother : ∀ {k}, k ≠ a → (s.setAcc a (some r)).acc k = s.acc k := fun hk => s.setAcc_acc_ne _ hk
  refine ⟨h.sessions, h.queues, fun k x hk => ?_, fun i m hm => ?_, h.groups, h.boundaries.of_sublist (fun _ => rfl)
    (fun _ => rfl) (fun _ => List.Sublist.refl _) fun k hk => ?_, h.jobs⟩
  · have hk : (s.setAcc a (some r)).acc k = some x := hk
    by_cases hka : k = a
    · subst hka
      obtain rfl := Option.some.inj ((s.setAcc_acc_self k _).symm.trans hk)
      exact hstands
    · exact h.standing k x ((hother hka).symm.trans hk)
  · obtain ⟨hopen, hbounds, hrecord⟩ := h.monitors i m hm
    refine ⟨hopen, hbounds, fun harmed => ?_⟩
    obtain ⟨r₀, hr₀, haccess⟩ := hrecord harmed
    have hka : m.acc ≠ a := fun e => by
      rw [e, ha] at hr₀
      cases hr₀
    exact ⟨r₀, (hother hka).trans hr₀, haccess⟩
  · have hk : (s.setAcc a (some r)).acc k = none := hk
    obtain ⟨-, -, -, -, hfree⟩ := h.boundaries
    by_cases hka : k = a
    · subst hka
      cases (s.setAcc_acc_self k _).symm.trans hk
    · exact hfree k ((hother hka).symm.trans hk)

theorem posted (h : s.Coupled) (es : Port → List EventRecord) : (s.posted es).Coupled :=
  ⟨h.sessions, h.queues.posted es, h.standing, h.monitors, h.groups, h.boundaries, h.jobs⟩

theorem setPool (h : s.Coupled) (n : Nat) : (s.setPool n).Coupled :=
  ⟨h.sessions, h.queues, h.standing, h.monitors, h.groups, h.boundaries, h.jobs⟩

theorem withMonitors (h : s.Coupled) {v : Vector (Option Monitor) 16} (hv : ∀ i m, entry v i = some m → m.SoundIn s) :
    (s.withMonitors v).Coupled :=
  ⟨h.sessions, h.queues, h.standing, hv, h.groups, h.boundaries, h.jobs⟩

/-- A record that becomes FREE when no claim is held for it and no monitor is ARMED on it. -/
theorem setAcc_none (h : s.Coupled) {a : AccIx} (hclaims : s.claims a = [])
    (hmonitors : ∀ i m, s.monitor i = some m → m.armed = true → m.acc ≠ a) : (s.setAcc a none).Coupled := by
  refine ⟨h.sessions, h.queues, fun k x hk => ?_, fun i m hm => ?_, h.groups, h.boundaries.of_sublist (fun _ => rfl)
    (fun _ => rfl) (fun _ => List.Sublist.refl _) fun k hk => ?_, h.jobs⟩
  · by_cases hka : k = a
    · subst hka
      rw [State.setAcc_acc_self] at hk
      cases hk
    · rw [State.setAcc_acc_ne _ _ hka] at hk
      exact h.standing k x hk
  · obtain ⟨hopen, hbounds, hrecord⟩ := h.monitors i m hm
    refine ⟨hopen, hbounds, fun harmed => ?_⟩
    obtain ⟨r₀, hr₀, haccess⟩ := hrecord harmed
    exact ⟨r₀, (s.setAcc_acc_ne _ (hmonitors i m hm harmed)).trans hr₀, haccess⟩
  · obtain ⟨-, -, -, -, hfree⟩ := h.boundaries
    by_cases hka : k = a
    · exact hka ▸ hclaims
    · rw [State.setAcc_acc_ne _ _ hka] at hk
      exact hfree k hk

/-- A record released: its monitors are detached and its claims discarded before it becomes FREE (R9, R90, R136). -/
theorem release (h : s.Coupled) (a : AccIx) (r : Accumulator) (q : Port) (reason : GoneReason) :
    (s.release a r q reason).Coupled := by
  have hdetached : ∀ i m, entry (s.detachedMonitors a fun _ => true) i = some m →
      ∃ m₀, s.monitor i = some m₀ ∧ m = { m₀ with armed := m₀.armed && !(m₀.acc == a) } := fun i m hm => by
    obtain ⟨m₀, hm₀, rfl⟩ := Option.map_eq_some_iff.mp ((entry_map _ _ _).symm.trans hm)
    exact ⟨m₀, hm₀, by rw [Bool.and_true]⟩
  have htold : ∀ es n, (((s.posted es).withMonitors (s.detachedMonitors a fun _ => true)).setPool n).Coupled := fun es n => by
    refine ((h.posted es).withMonitors fun i m hm => ?_).setPool n
    obtain ⟨m₀, hm₀, rfl⟩ := hdetached i m hm
    obtain ⟨hopen, hbounds, hrecord⟩ := h.monitors i m₀ hm₀
    exact ⟨hopen, hbounds, fun harmed => hrecord (Bool.and_eq_true_iff.mp harmed).1⟩
  rw [State.release_eq]
  refine State.Coupled.setAcc_none ((htold _ _).setClaims (List.nil_sublist _)) (State.setClaims_claims_self _ a []) ?_
  intro i m hm harmed hka
  obtain ⟨m₀, -, rfl⟩ := hdetached i m hm
  have hka : m₀.acc = a := hka
  simp [hka] at harmed

end State.Coupled

end Sys2Proof.Machine
end

section
/-! PROOF. Every step keeps a sound state sound (O5): the end of a session, requests, the other commands, and RESETn. -/

namespace Sys2Proof.Machine

/-! ### The end of a session (R164) -/

section
variable {s : State} {p : Port} (cause : EndCause) (response : Option Response)

/-- A port whose session is OPEN after the end of the session of `p` is another, and was OPEN. -/
theorem State.afterEnd_isOpen_iff (q : Port) :
    ((s.afterEnd p cause response).session q).isOpen = true ↔ q ≠ p ∧ (s.session q).isOpen = true := by
  by_cases hq : q = p
  · subst hq
    simp [Session.ended, Session.isOpen]
  · rw [State.afterEnd_session_ne _ _ _ _ hq]
    simp [hq]

theorem Session.ended_fits (r : Session) : (r.ended cause response).Fits :=
  ⟨fun _ hl => (nomatch hl), fun hopen => (nomatch hopen), fun howed => (nomatch howed), fun _ => rfl⟩

/-- The record that the end leaves has no standing of `p`, and all others' (R47). -/
theorem Accumulator.StandsIn.afterEnd {r r' : Accumulator} (h : r.StandsIn s) (hr' : r.afterEnd p = some r') :
    r'.StandsIn (s.afterEnd p cause response) := by
  obtain ⟨howner, hcontributors, hreaders, hoffer⟩ := h
  unfold Accumulator.afterEnd at hr'
  split at hr'
  · cases hr'
  · obtain rfl := Option.some.inj hr'
    refine ⟨fun q hq => ?_, fun q hq => ?_, fun q hq => ?_, fun o ho => ?_⟩
    · have hq : (if r.owner = some p then none else r.owner) = some q := hq
      split at hq
      · cases hq
      · next hp =>
        have hqp : q ≠ p := fun e => hp (e ▸ hq)
        obtain ⟨hopen, hno⟩ := howner q hq
        refine ⟨(State.afterEnd_isOpen_iff cause response q).mpr ⟨hqp, hopen⟩, ?_⟩
        exact (entry_withEntry_ne _ _ hqp).trans hno
    · have hqp : q ≠ p := fun e => by
        subst e
        cases (entry_withEntry_self _ _ _).symm.trans hq
      exact (State.afterEnd_isOpen_iff cause response q).mpr
        ⟨hqp, hcontributors q ((entry_withEntry_ne _ _ hqp).symm.trans hq)⟩
    · have hq : (entry (withEntry r.readers p none) q).isSome = true := hq
      have hqp : q ≠ p := fun e => by
        subst e
        rw [entry_withEntry_self] at hq
        cases hq
      rw [entry_withEntry_ne _ _ hqp] at hq
      exact (State.afterEnd_isOpen_iff cause response q).mpr ⟨hqp, hreaders q hq⟩
    · have ho : (if r.owner = some p ∨ r.offer.any (·.port == p) then none else r.offer) = some o := ho
      split at ho
      · cases ho
      · next hstays =>
        obtain ⟨hownerp, hport⟩ := not_or.mp hstays
        obtain ⟨hopen, p', hp', hne⟩ := hoffer o ho
        have hop : o.port ≠ p := by simpa [ho] using hport
        refine ⟨(State.afterEnd_isOpen_iff cause response _).mpr ⟨hop, hopen⟩, p', ?_, hne⟩
        show (if r.owner = some p then none else r.owner) = some p'
        rw [if_neg hownerp, hp']

/-- A port other than `p` keeps its access to a record that stays. -/
theorem Accumulator.afterEnd_access {r r' : Accumulator} (hr' : r.afterEnd p = some r') {q : Port} (hq : q ≠ p)
    (h : r.access q = true) : r'.access q = true := by
  unfold Accumulator.afterEnd at hr'
  split at hr'
  · cases hr'
  · obtain rfl := Option.some.inj hr'
    rw [Accumulator.access_iff] at h ⊢
    obtain howner | hcontributor | hreader := h
    · have hne : r.owner ≠ some p := fun e => hq (Option.some.inj (howner.symm.trans e))
      exact .inl ((if_neg hne).trans howner)
    · exact .inr (.inl ((entry_withEntry_ne _ _ hq).trans hcontributor))
    · exact .inr (.inr ((congrArg Option.isSome (entry_withEntry_ne _ _ hq)).trans hreader))

/-- A monitor that the end leaves: another port's, and ARMED only on a record that stays. -/
theorem State.Coupled.afterEnd_monitor (h : s.Coupled) {i : MonIx} {m : Monitor}
    (hm : (s.afterEnd p cause response).monitor i = some m) : m.SoundIn (s.afterEnd p cause response) := by
  rw [State.afterEnd_monitor] at hm
  obtain ⟨m₀, hm₀, hleft⟩ := Option.bind_eq_some_iff.mp hm
  split at hleft
  · cases hleft
  · next howner =>
    obtain rfl := Option.some.inj hleft
    obtain ⟨hopen, hbounds, hrecord⟩ := h.monitors i m₀ hm₀
    refine ⟨(State.afterEnd_isOpen_iff cause response _).mpr ⟨howner, hopen⟩, hbounds, fun harmed => ?_⟩
    obtain ⟨harmed₀, hstays⟩ := Bool.and_eq_true_iff.mp harmed
    obtain ⟨r, hr, haccess⟩ := hrecord harmed₀
    cases hr' : r.afterEnd p with
    | none =>
      obtain ⟨hp, hdrop⟩ := (r.afterEnd_eq_none_iff p).mp hr'
      simp [State.dropsAtEnd, hr, hp, hdrop] at hstays
    | some r' =>
      refine ⟨r', ?_, Accumulator.afterEnd_access hr' howner haccess⟩
      rw [State.afterEnd_acc, hr]
      exact hr'

/-- A record that is FREE after the end was FREE or is dropped, and holds no claim. -/
theorem State.Coupled.afterEnd_claims (h : s.Coupled) {a : AccIx} (ha : (s.afterEnd p cause response).acc a = none) :
    (s.afterEnd p cause response).claims a = [] := by
  rw [State.afterEnd_acc] at ha
  rw [State.afterEnd_claims]
  cases hr : s.acc a with
  | none =>
    obtain ⟨-, -, -, -, hfree⟩ := h.boundaries
    rw [hfree a hr, ite_self]
  | some r =>
    rw [hr] at ha
    obtain ⟨hp, hdrop⟩ := (r.afterEnd_eq_none_iff p).mp ha
    rw [if_pos (by simp [State.dropsAtEnd, hr, hp, hdrop])]

theorem State.Coupled.afterEnd (h : s.Coupled) : (s.afterEnd p cause response).Coupled := by
  refine ⟨fun q => ?sessions, fun q hq => ?queues, fun a r' hr' => ?standing,
    fun i m hm => State.Coupled.afterEnd_monitor cause response h hm, State.groupsSound_iff.mpr fun g => ?groups,
    h.boundaries.of_sublist (fun g => ?due) (fun g => State.afterEnd_notice s p cause response g) (fun a => ?claims)
      fun a ha => State.Coupled.afterEnd_claims cause response h ha, fun q => ?jobs⟩
  case sessions =>
    by_cases hqp : q = p
    · subst hqp
      rw [State.afterEnd_session_self, State.afterEnd_port_self]
      exact ⟨Session.ended_fits cause response _, fun hopen => (nomatch hopen), fun hholding => (nomatch hholding)⟩
    · rw [State.afterEnd_session_ne _ _ _ _ hqp, State.afterEnd_port_ne _ _ _ _ hqp]
      exact h.sessions q
  case queues =>
    by_cases hqp : q = p
    · subst hqp
      rw [State.afterEnd_session_self]
      exact ⟨fun hat => (nomatch hat), fun hat => (nomatch hat)⟩
    · rw [State.afterEnd_session_ne _ _ _ _ hqp] at hq ⊢
      rw [State.afterEnd_jobs, State.afterEnd_events, if_neg (by simp [hq])]
      exact h.queues q hq
  case standing =>
    rw [State.afterEnd_acc] at hr'
    obtain ⟨r, hr, hafter⟩ := Option.bind_eq_some_iff.mp hr'
    exact Accumulator.StandsIn.afterEnd cause response (h.standing a r hr) hafter
  case groups =>
    obtain ⟨hfits, howner⟩ := State.groupsSound_iff.mp h.groups g
    rw [State.afterEnd_group]
    refine ⟨hfits, fun q hq => ?_⟩
    have hq : (if (s.group g).owner = some p then none else (s.group g).owner) = some q := hq
    split at hq
    · cases hq
    · next hp =>
      have hqp : q ≠ p := fun e => hp (e ▸ hq)
      exact (State.afterEnd_isOpen_iff cause response q).mpr ⟨hqp, howner q hq⟩
  case due =>
    rw [State.afterEnd_group]
    rfl
  case claims =>
    rw [State.afterEnd_claims]
    split
    · exact List.nil_sublist _
    · exact List.Sublist.refl _
  case jobs =>
    rw [State.afterEnd_jobs]
    exact h.jobs q

end

/-! ### Requests -/

theorem Kind.eq_openSession_of_code {k : Kind} : k.code = Kind.openSession.code → k = .openSession :=
  (by decide : ∀ k ∈ allKinds, k.code = Kind.openSession.code → k = .openSession) k (mem_allKinds k)

namespace State.Coupled

variable {s t : State} {p : Port}

theorem responded (h : s.Coupled) (tag : Byte) (st : Status) (payload : List Byte) :
    (s.responded p tag st payload).Coupled := h.setPort_same rfl rfl rfl

theorem popped (h : s.Coupled) : (s.popped p).Coupled := h.setPort_free rfl rfl

theorem answered (h : s.Coupled) (f : Frame) (st : Status) (payload : List Byte) :
    (s.answered p f st payload).Coupled := h.popped.responded _ _ _

/-- Every effect of a request taken in an OPEN session keeps the coupled properties. -/
theorem of_effect (h : s.Coupled) (hopen : (s.session p).isOpen = true) (heffect : s.Effect p t) : t.Coupled := by
  induction heffect with
  | nothing => exact h
  | changed ha _ _ _ hstanding _ hv => exact h.changed ha (hstanding hopen) hv _ _
  | @created a policies depth ha _ _ =>
    refine h.created ha ⟨fun q hq => ?_, fun q hq => ?_, fun q hq => ?_, fun o ho => ?_⟩ _
    · obtain rfl := Option.some.inj hq
      exact ⟨hopen, entry_replicate _ _⟩
    · cases (entry_replicate false q).symm.trans hq
    · have hq : (entry (Vector.replicate 4 (none : Option ReaderEntry)) q).isSome = true := hq
      rw [entry_replicate] at hq
      cases hq
    · cases ho
  | released ha => exact h.release _ _ _ _
  | armed howner hbounds ha haccess =>
    refine h.setMonitor fun m hm => ?_
    obtain rfl := Option.some.inj hm
    exact ⟨howner ▸ hopen, hbounds h.monitors, fun _ => ⟨_, ha, howner ▸ haccess⟩⟩
  | freed => exact h.setMonitor fun m hm => by cases hm
  | @scheduled g r hready howner hdue hfits =>
    obtain ⟨hgfits, hgowner⟩ := State.groupsSound_iff.mp h.groups g
    have hnotDue : (s.group g).boundaryDue = false := by
      have hall := List.all_eq_true.mp hready g (mem_allGroups g)
      simpa using hall
    refine h.setGroup (hfits hnotDue hgfits) (fun q hq => ?_) hdue
    obtain hnone | hself | hsame := howner
    · cases hnone.symm.trans hq
    · exact Option.some.inj (hself.symm.trans hq) ▸ hopen
    · exact hgowner q (hsame.symm.trans hq)
  | fetched => exact h.setEvents_sublist (List.drop_sublist _ _)
  | @queued j hroom hport hmark =>
    obtain ⟨-, hjobs⟩ := h.jobs p
    refine h.setJobs ?_ (fun x hx => ?_) fun hclosed => ?_
    · rw [List.length_append, List.length_singleton]
      omega
    · obtain hx | hx := List.mem_append.mp hx
      · exact hjobs x hx
      · exact List.mem_singleton.mp hx ▸ ⟨hport, hmark⟩
    · cases hclosed.symm.trans hopen
  | dequeued hsub => exact h.setJobs_sublist hsub
  | marked => exact h.setRunning _
  | granted _ ih => exact ih.makeGrant
  | ended =>
    rw [State.endSession_eq_afterEnd]
    exact State.Coupled.afterEnd _ _ h
  | responded _ ih => exact ih.responded _ _ _

/-- A request that passes the session test is an OPEN or is in an OPEN session (R187). -/
theorem isOpen_of_not_refused (h : s.Coupled) {k : Kind} {f : Frame} (hk : k ≠ .openSession) (hf : s.HeadIs p k f)
    (hpass : s.sessionRefuses p k = false) : (s.session p).isOpen = true := by
  obtain ⟨-, -, hholding⟩ := h.sessions p
  obtain ⟨hhead, hkind⟩ := hf
  cases hheld : (s.port p).holding with
  | false => simpa [State.sessionRefuses, hheld, hk] using hpass
  | true =>
    refine (hholding hheld).resolve_right fun hopen => hk (Kind.eq_openSession_of_code ?_)
    rw [hhead] at hopen
    exact hkind.symm.trans (by simpa using hopen)

theorem held (h : s.Coupled) {k : Kind} {f : Frame} (hf : s.HeadIs p k f) (hpass : s.sessionRefuses p k = false) :
    (s.held p).Coupled := by
  obtain ⟨-, hexpired, -⟩ := h.sessions p
  refine h.setPort hexpired fun _ => ?_
  by_cases hk : k = .openSession
  · obtain ⟨hhead, hkind⟩ := hf
    refine .inr ?_
    show (s.port p).requests.head?.any _ = true
    rw [hhead]
    simp [hkind, hk]
  · exact .inl (h.isOpen_of_not_refused hk hf hpass)

/-- OPEN taken with no end in progress (R157, R158). -/
theorem takeOpen (h : s.Coupled) {n : Nat} (hn : 16 ≤ n ∧ n ≤ 8192) (hending : (s.session p).ending = false)
    (hholding : (s.port p).holding = false) : (s.takeOpen p n).1.Coupled := by
  obtain ⟨hlow, hhigh⟩ := hn
  cases hopen : (s.session p).isOpen with
  | true =>
    rw [State.takeOpen_of_open hopen]
    exact h
  | false =>
    obtain ⟨⟨-, -, -, hresponse⟩, -, -⟩ := h.sessions p
    rw [State.takeOpen_of_closed hopen]
    have hport : (s.setPort p { s.port p with expired := false }).Coupled :=
      h.setPort (fun _ => rfl) fun hheld => by cases hholding.symm.trans hheld
    have hfits : ((s.session p).opened n).Fits := by
      refine ⟨fun l hl => ?_, fun _ => hending, fun _ => rfl, hresponse⟩
      obtain rfl := Option.some.inj hl
      exact ⟨hlow, hhigh, (by decide : 1 ≤ 16).trans hlow, le_refl n⟩
    refine hport.setSession (p := p) hfits (fun _ => rfl) (fun _ => ?_) fun hclosed => by cases hclosed
    rw [State.setPort_port_self]

theorem request (h : s.Coupled) (k : Kind) (p : Port) {t : State} (ht : exec (k.command p) s = .next t) : t.Coupled := by
  by_cases hk : k = .openSession
  · subst hk
    rw [show exec (Kind.openSession.command p) s = _ from exec_openSession p s] at ht
    obtain rfl := Host.Outcome.next.inj ht
    refine State.serve_induct h (fun f st _ => h.answered f st []) (fun f hf hpass => h.held hf hpass)
      fun f x _ _ hx hready => ?_
    rw [State.reply_eq]
    refine State.Coupled.responded (h.popped.takeOpen (openOperands_bounds hx) ?_ ?_) _ _ _
    · simpa [openTakes] using hready
    · rw [State.popped_port_self]
  · obtain ⟨α, operands, ready, take, hexec, hready, htake⟩ := k.effective hk
    obtain rfl := Host.Outcome.next.inj ((hexec p s).symm.trans ht)
    refine State.serve_induct h (fun f st _ => h.answered f st []) (fun f hf hpass => h.held hf hpass)
      fun f x hf hpass hx hr => ?_
    exact h.popped.of_effect (h.isOpen_of_not_refused hk hf hpass) (htake p _ _ _ x hx ((hready p s x).trans hr))

end State.Coupled

end Sys2Proof.Machine
end

section
/-! PROOF. Every step keeps a sound state sound (O5): the commands that are no requests, and RESETn. -/

namespace Sys2Proof.Machine

/-! ### A tick at a group and at a session timer (R86, R160) -/

theorem Group.Fits.onTick {r : Group} (h : r.Fits) : r.onTick.Fits := by
  obtain ⟨hlow, hhigh, hcountdown, hdue⟩ := h
  unfold Group.onTick
  cases hc : r.countdown with
  | none => exact ⟨hlow, hhigh, hcountdown, hdue⟩
  | some c =>
    obtain ⟨hpos, hle⟩ := hcountdown c hc
    dsimp only
    split
    · next hmore =>
      refine ⟨hlow, hhigh, fun c' hc' => ?_, fun hr => ?_⟩
      · obtain rfl := Option.some.inj hc'
        show 1 ≤ c - 1 ∧ c - 1 ≤ r.period
        omega
      · obtain rfl := Option.some.inj (hc.symm.trans (hdue hr))
        exact absurd hmore (lt_irrefl 1)
    · have hone : c = 1 := by omega
      exact ⟨hlow, hhigh, fun c' hc' => hcountdown c' (hc.trans hc'), fun _ => congrArg some hone⟩

theorem Group.onTick_owner (r : Group) : r.onTick.owner = r.owner := by
  unfold Group.onTick
  repeat' split
  all_goals rfl

theorem Session.onTick_frame (r : Session) : r.onTick.isOpen = r.isOpen ∧ r.onTick.ending = r.ending ∧
    r.onTick.atEngine = r.atEngine ∧ r.onTick.atEvents = r.atEvents ∧ r.onTick.atPort = r.atPort ∧
    r.onTick.closeResponse = r.closeResponse := by
  unfold Session.onTick Session.isOpen
  cases hl : r.lease with
  | none => exact ⟨by rw [hl], rfl, rfl, rfl, rfl, rfl⟩
  | some l =>
    dsimp only
    split
    · exact ⟨rfl, rfl, rfl, rfl, rfl, rfl⟩
    · exact ⟨rfl, rfl, rfl, rfl, rfl, rfl⟩

theorem Session.Fits.onTick {r : Session} (h : r.Fits) : r.onTick.Fits := by
  obtain ⟨hopen, hending, -, -, hport, hresponse⟩ := r.onTick_frame
  obtain ⟨hlease, hnotEnding, howed, hclose⟩ := h
  refine ⟨fun l hl => ?_, by rwa [hopen, hending], fun ho => ?_, by rwa [hresponse, hport]⟩
  · unfold Session.onTick at hl
    cases hl₀ : r.lease with
    | none => simp [hl₀] at hl
    | some l₀ =>
      obtain ⟨hmin, hmax, hpos, hle⟩ := hlease l₀ hl₀
      simp only [hl₀] at hl
      split at hl
      · next hmore =>
        obtain rfl := Option.some.inj hl
        refine ⟨hmin, hmax, ?_, ?_⟩
        · show 1 ≤ l₀.remaining - 1
          omega
        · show l₀.remaining - 1 ≤ l₀.length
          omega
      · obtain rfl := Option.some.inj hl
        exact ⟨hmin, hmax, hpos, hle⟩
  · rw [hopen]
    unfold Session.onTick at ho
    cases hl₀ : r.lease with
    | none =>
      simp only [hl₀] at ho
      exact howed ho
    | some l₀ => simp [Session.isOpen, hl₀]

theorem State.tickReady_iff (s : State) : s.tickReady = true ↔ s.resetLow = false ∧ s.clockReady = true ∧
    (∀ g, s.notice g = none) ∧ (∀ a, s.claims a = []) ∧ ∀ p, (s.session p).tickOwed = false := by
  simp [State.tickReady, mem_allGroups, mem_allAccs, mem_allPorts, and_assoc]

/-! ### Refreshes (R159) -/

theorem Session.refreshed_isOpen (r : Session) : r.refreshed.isOpen = r.isOpen := Option.isSome_map

theorem Session.Fits.refreshed {r : Session} (h : r.Fits) : r.refreshed.Fits := by
  obtain ⟨hlease, hnotEnding, howed, hclose⟩ := h
  refine ⟨fun l hl => ?_, ?_, ?_, hclose⟩
  · obtain ⟨l₀, hl₀, rfl⟩ := Option.map_eq_some_iff.mp hl
    obtain ⟨hmin, hmax, -, -⟩ := hlease l₀ hl₀
    exact ⟨hmin, hmax, le_trans (by decide : 1 ≤ Config.minLease) hmin, le_refl _⟩
  · rw [Session.refreshed_isOpen]
    exact hnotEnding
  · rw [Session.refreshed_isOpen]
    exact howed

namespace State.Coupled

variable {s : State} {p : Port}

/-! ### Time -/

theorem ticked (h : s.Coupled) (hready : s.tickReady = true) : s.ticked.Coupled := by
  obtain ⟨-, -, hnotices, hclaims, -⟩ := s.tickReady_iff.mp hready
  have hopen : ∀ q, (s.ticked.session q).isOpen = (s.session q).isOpen := fun q => by
    obtain ⟨hq, -⟩ := (s.session q).onTick_frame
    rw [State.ticked_session, hq]
  refine ⟨fun q => ?_, fun q hq => ?_, fun a r hr => Accumulator.StandsIn.mono (h.standing a r hr) fun q hq =>
    (hopen q).trans hq, fun i m hm => ?_, State.groupsSound_iff.mpr fun g => ?_, ⟨fun g _ => hnotices g, fun g b hb => ?_,
    fun g _ a b hb => ?_, fun a => ?_, fun a _ => hclaims a⟩, h.jobs⟩
  · obtain ⟨hfits, hexpired, hholding⟩ := h.sessions q
    rw [hopen, State.ticked_session]
    exact ⟨hfits.onTick, hexpired, hholding⟩
  · obtain ⟨-, -, hengine, hevents, -, -⟩ := (s.session q).onTick_frame
    rw [State.ticked_session, hengine, hevents]
    exact h.queues q ((hopen q).symm.trans hq)
  · obtain ⟨howner, hrest⟩ := h.monitors i m hm
    exact ⟨(hopen _).trans howner, hrest⟩
  · obtain ⟨hfits, howner⟩ := State.groupsSound_iff.mp h.groups g
    rw [State.ticked_group, Group.onTick_owner]
    exact ⟨hfits.onTick, fun q hq => (hopen q).trans (howner q hq)⟩
  · cases (hnotices g).symm.trans hb
  · have hb : b ∈ s.claims a := hb
    rw [hclaims a] at hb
    cases hb
  · show ((s.claims a).map _).Nodup
    rw [hclaims a]
    exact List.nodup_nil

theorem leaseExpiry (h : s.Coupled) (p : Port) : ∃ t, exec (.leaseExpiry p) s = .next t ∧ t.Coupled := by
  obtain ⟨hlease, hnotEnding, howed, hclose⟩ := (h.sessions p).1
  cases hnow : (s.session p).tickOwed with
  | false => exact ⟨_, exec_leaseExpiry_of_not_owed hnow, h⟩
  | true =>
    cases hl : (s.session p).lease with
    | none =>
      exact ⟨_, exec_leaseExpiry_of_closed hnow hl,
        h.setSession_same ⟨hlease, hnotEnding, fun ho => (nomatch ho), hclose⟩ rfl rfl rfl⟩
    | some l =>
      refine ⟨_, exec_leaseExpiry_of_open hnow hl, ?_⟩
      split
      · exact State.Coupled.afterEnd _ _ h
      · next hmore =>
        have hopen : (s.session p).isOpen = true := by simp [Session.isOpen, hl]
        obtain ⟨hmin, hmax, -, hle⟩ := hlease l hl
        refine h.setSession_same ⟨fun l' hl' => ?_, fun _ => hnotEnding hopen, fun ho => (nomatch ho), hclose⟩ hopen.symm
          rfl rfl
        obtain rfl := Option.some.inj hl'
        refine ⟨hmin, hmax, ?_, ?_⟩
        · show 1 ≤ l.remaining - 1
          omega
        · show l.remaining - 1 ≤ l.length
          omega

/-- A boundary reloads the countdown, and its notice is the only one under way of its group (R86, R90). -/
theorem boundaryTaken (h : s.Coupled) {g : GroupIx} {r : Group} {b : Boundary} (hdue : (s.group g).boundaryDue = true)
    (hfits : r.Fits) (howner : r.owner = (s.group g).owner) (hr : r.boundaryDue = false) (hb : b.group = g) :
    ((s.setGroup g r).setNotice g (some b)).Coupled := by
  obtain ⟨hnone, hgroup, hunder, hnodup, hfree⟩ := h.boundaries
  have hother : ∀ {k}, k ≠ g → (s.setGroup g r).group k = s.group k := fun hk => s.setGroup_group_ne _ hk
  have hself : (s.setGroup g r).group g = r := s.setGroup_group_self g r
  refine ⟨h.sessions, h.queues, h.standing, h.monitors, State.groupsSound_iff.mpr fun k => ?_,
    ⟨fun k hk => ?_, fun k b' hb' => ?_, fun k hk a b' hb' => ?_, hnodup, hfree⟩, h.jobs⟩
  · obtain ⟨hkfits, hkowner⟩ := State.groupsSound_iff.mp h.groups k
    rw [State.setNotice_group]
    by_cases hkg : k = g
    · subst hkg
      rw [hself, howner]
      exact ⟨hfits, hkowner⟩
    · rw [hother hkg]
      exact ⟨hkfits, hkowner⟩
  · rw [State.setNotice_group] at hk
    by_cases hkg : k = g
    · subst hkg
      rw [hself, hr] at hk
      cases hk
    · rw [hother hkg] at hk
      rw [State.setNotice_notice_ne _ _ hkg]
      exact hnone k hk
  · by_cases hkg : k = g
    · subst hkg
      rw [State.setNotice_notice_self] at hb'
      exact Option.some.inj hb' ▸ hb
    · rw [State.setNotice_notice_ne _ _ hkg] at hb'
      exact hgroup k b' hb'
  · by_cases hkg : k = g
    · subst hkg
      exact hunder k (.inl hdue) a b' hb'
    · rw [State.setNotice_group, hother hkg, State.setNotice_notice_ne _ _ hkg] at hk
      exact hunder k hk a b' hb'

theorem boundary (h : s.Coupled) (g : GroupIx) : ∃ t, exec (.boundary g) s = .next t ∧ t.Coupled := by
  obtain ⟨⟨hlow, hhigh, -, hone⟩, -⟩ := State.groupsSound_iff.mp h.groups g
  refine ⟨_, exec_boundary g s, ?_⟩
  split_ifs with hdue hrunning
  · refine h.boundaryTaken hdue ⟨hlow, hhigh, fun c hc => ?_, fun hr => (nomatch hr)⟩ rfl rfl rfl
    exact Option.some.inj hc ▸ ⟨hlow, le_refl _⟩
  · exact absurd ((s.group g).running_iff.mpr (by simp [hone hdue])) hrunning
  · exact h

/-- The claims that a boundary forms are held once each: no record's claims name its group yet (R88, R90). -/
theorem claimsWith_nodup (h : s.Coupled) {g : GroupIx} {b : Boundary} (hb : s.notice g = some b) (a : AccIx) :
    ((s.claimsWith b a (s.claims a)).map (·.group)).Nodup := by
  obtain ⟨-, hgroup, hunder, hnodup, -⟩ := h.boundaries
  unfold State.claimsWith
  split
  · rw [List.map_append, List.nodup_append]
    refine ⟨hnodup a, List.nodup_singleton _, fun x hx y hy => ?_⟩
    obtain ⟨b', hb', rfl⟩ := List.mem_map.mp hx
    obtain rfl := List.mem_singleton.mp hy
    show b'.group ≠ b.group
    rw [hgroup g b hb]
    exact hunder g (.inr (by rw [hb]; rfl)) a b' hb'
  · exact hnodup a

theorem mem_claimsWith {b b' : Boundary} {a : AccIx} (h : b' ∈ s.claimsWith b a (s.claims a)) :
    b' ∈ s.claims a ∨ b' = b := by
  unfold State.claimsWith at h
  split at h
  · exact (List.mem_append.mp h).imp_right List.mem_singleton.mp
  · exact .inl h

/-- A notice taken leaves its group with no boundary under way but the claims it forms (R88, R90). -/
theorem noticeTaken (h : s.Coupled) {g : GroupIx} {b : Boundary} (hb : s.notice g = some b)
    {v : Vector (List Boundary) 32} (hv : ∀ a, entry v a = s.claimsWith b a (s.claims a)) :
    ((s.setNotice g none).withClaims v).Coupled := by
  obtain ⟨hnone, hgroup, hunder, -, hfree⟩ := h.boundaries
  have hclaims : ∀ a, ((s.setNotice g none).withClaims v).claims a = s.claimsWith b a (s.claims a) := hv
  have hnotice : ∀ k, ((s.setNotice g none).withClaims v).notice k = (s.setNotice g none).notice k := fun _ => rfl
  have hdue : ∀ k, ((s.setNotice g none).withClaims v).group k = s.group k := fun _ => rfl
  refine ⟨h.sessions, h.queues, h.standing, h.monitors, h.groups,
    ⟨fun k hk => ?_, fun k b' hb' => ?_, fun k hk a b' hb' => ?_, fun a => ?_, fun a ha => ?_⟩, h.jobs⟩
  · rw [hnotice, State.setNotice_notice, hnone k (hdue k ▸ hk), ite_self]
  · rw [hnotice, State.setNotice_notice] at hb'
    split at hb'
    · cases hb'
    · exact hgroup k b' hb'
  · rw [hdue, hnotice] at hk
    rw [hclaims] at hb'
    have hkg : k ≠ g := fun e => by
      subst e
      rw [State.setNotice_notice_self] at hk
      cases (hnone k (hk.resolve_right Bool.false_ne_true)).symm.trans hb
    rw [State.setNotice_notice_ne _ _ hkg] at hk
    obtain hb' | rfl := mem_claimsWith hb'
    · exact hunder k hk a b' hb'
    · exact fun e => hkg (e.symm.trans (hgroup g b' hb))
  · rw [hclaims]
    exact h.claimsWith_nodup hb a
  · have ha : s.acc a = none := ha
    rw [hclaims, State.claimsWith, ha]
    exact hfree a ha

theorem boundaryNotice (h : s.Coupled) (g : GroupIx) : ∃ t, exec (.boundaryNotice g) s = .next t ∧ t.Coupled := by
  obtain ⟨htaken, hidle⟩ := boundaryNoticeFormsClaims g s
  cases hb : s.notice g with
  | none => exact ⟨_, hidle hb, h⟩
  | some b => exact ⟨_, htaken b hb, h.noticeTaken hb fun a => entry_ofFn _ a⟩

/-- A close changes no standing and no access, and its monitors follow (R18, R20). -/
theorem closeWindow (h : s.Coupled) {a : AccIx} {r : Accumulator} (ha : s.acc a = some r) (cause : Cause) (tick : Word32) :
    (s.closeWindow a r cause tick).Coupled := by
  rw [State.closeWindow_eq]
  exact h.changed (r' := r.closed cause tick) ha (fun hr => hr) (State.monitorsFollow_judged rfl _ _ fun _ hq => hq) s.pool _

theorem closeClaim (h : s.Coupled) (a : AccIx) : ∃ t, exec (.closeClaim a) s = .next t ∧ t.Coupled := by
  cases hc : s.claims a with
  | nil => exact ⟨_, exec_closeClaim_of_none hc, h⟩
  | cons b rest =>
    have htaken : (s.setClaims a rest).Coupled := h.setClaims (hc ▸ List.sublist_cons_self b rest)
    cases ha : s.acc a with
    | none => exact ⟨_, exec_closeClaim_of_free hc ha, htaken⟩
    | some r =>
      refine ⟨_, exec_closeClaim_of_inUse hc ha, ?_⟩
      split_ifs
      · exact htaken
      · exact htaken
      · exact htaken.closeWindow ha _ _

/-! ### Transactions -/

theorem transactionStart (h : s.Coupled) (p : Port) : ∃ t, exec (.transactionStart p) s = .next t ∧ t.Coupled := by
  cases hsel : (s.port p).selLow with
  | true => exact ⟨_, exec_transactionStart_of_low hsel, h⟩
  | false =>
    cases hlow : s.resetLow with
    | true => exact ⟨_, exec_transactionStart_of_reset hsel hlow, h.setPort_same rfl rfl rfl⟩
    | false => exact ⟨_, exec_transactionStart_of_high hsel hlow, h.setPort_same rfl rfl rfl⟩

theorem setSession_refreshed (h : s.Coupled) (p : Port) : (s.setSession p (s.session p).refreshed).Coupled :=
  h.setSession_same (h.sessions p).1.refreshed (Session.refreshed_isOpen _) rfl rfl

theorem idled (h : s.Coupled) (p : Port) : (s.setPort p (s.port p).idled).Coupled := h.setPort_same rfl rfl rfl

theorem resync (h : s.Coupled) (p : Port) : ∃ t, exec (.resync p) s = .next t ∧ t.Coupled := by
  cases hf : (s.port p).framing with
  | idle => exact ⟨_, exec_resync_of_other (.inl hf), h⟩
  | selected =>
    by_cases hj : s.judged p = .resync
    · cases hopen : (s.session p).isOpen with
      | true => exact ⟨_, exec_resync_of_open hf hj hopen, State.Coupled.afterEnd _ _ (h.idled p)⟩
      | false =>
        obtain ⟨hlease, hnotEnding, howed, -⟩ := (h.sessions p).1
        refine ⟨_, exec_resync_of_closed hf hj hopen, ?_⟩
        have hflushed : (s.setPort p { (s.port p).idled with
            requests := [], holding := false, reservations := 0, responses := [] }).Coupled := h.setPort_free rfl rfl
        exact hflushed.setSession_same ⟨hlease, hnotEnding, howed, fun hr => (nomatch hr)⟩ rfl rfl rfl
    · exact ⟨_, exec_resync_of_other (.inr hj), h⟩

theorem null (h : s.Coupled) (p : Port) : ∃ t, exec (.null p) s = .next t ∧ t.Coupled := by
  cases hf : (s.port p).framing with
  | idle => exact ⟨_, exec_null_of_other (.inl hf), h⟩
  | selected =>
    by_cases hj : s.judged p = .null
    · exact ⟨_, exec_null_of_judged hf hj, (h.idled p).setSession_refreshed p⟩
    · exact ⟨_, exec_null_of_other (.inr hj), h⟩

/-- An accepted frame stands behind the request that the decoder holds (R178). -/
theorem accepted (h : s.Coupled) (p : Port) (f : Frame) : (s.setPort p { (s.port p).idled with
    requests := (s.port p).requests ++ [f], reservations := (s.port p).reservations + 1 }).Coupled := by
  obtain ⟨-, hexpired, hholding⟩ := h.sessions p
  refine h.setPort hexpired fun hheld => (hholding hheld).imp_right fun hopen => ?_
  show ((s.port p).requests ++ [f]).head?.any _ = true
  cases hreq : (s.port p).requests with
  | nil =>
    rw [hreq] at hopen
    cases hopen
  | cons g rest =>
    rw [hreq] at hopen
    exact hopen

theorem transactionEnd (h : s.Coupled) (p : Port) : ∃ t, exec (.transactionEnd p) s = .next t ∧ t.Coupled := by
  obtain ⟨-, hselected⟩ := transactionEndJudgesTheFrame p s
  cases hf : (s.port p).framing with
  | idle => exact ⟨_, exec_transactionEnd_of_idle hf, h.setPort_same rfl rfl rfl⟩
  | selected =>
    obtain ⟨hnothing, hdropped, hnull, hresync, hoffered⟩ := hselected hf
    cases hj : s.judged p with
    | nothing => exact ⟨_, hnothing hj, h.idled p⟩
    | dropped => exact ⟨_, hdropped hj, h.setPort_same rfl rfl rfl⟩
    | null => exact ⟨_, hnull hj, (h.idled p).setSession_refreshed p⟩
    | resync => exact hresync hj ▸ h.resync p
    | offered f =>
      refine ⟨_, hoffered f hj, ?_⟩
      split
      · exact (h.accepted p f).setSession_refreshed p
      · have hrefused : (s.setPort p { (s.port p).idled with refused := true, cause := .queueFull }).Coupled :=
          h.setPort_same rfl rfl rfl
        exact hrefused.setSession_refreshed p

theorem byteShifted (h : s.Coupled) (p : Port) (b : Byte) : ∃ t, exec (.byteShifted p b) s = .next t ∧ t.Coupled := by
  cases hf : (s.port p).framing with
  | idle => exact ⟨_, exec_byteShifted_of_idle b hf, h⟩
  | selected => exact ⟨_, exec_byteShifted_of_selected b hf, h.setPort_same rfl rfl rfl⟩

theorem badKind (h : s.Coupled) (p : Port) : ∃ t, exec (.badKind p) s = .next t ∧ t.Coupled := by
  cases hq : (s.port p).requests with
  | nil => exact ⟨_, exec_badKind_of_empty hq, h⟩
  | cons f rest =>
    refine ⟨_, exec_badKind_of_head (f := f) (by rw [hq]; rfl), ?_⟩
    split
    · exact h
    · exact h.answered f _ _

/-! ### The hand-overs of a session's end, and the engine -/

/-- A session of which a hand-over is owed is CLOSED. -/
theorem isOpen_of_ending (h : s.Coupled) (hending : (s.session p).ending = true) : (s.session p).isOpen = false := by
  obtain ⟨-, hnotEnding, -, -⟩ := (h.sessions p).1
  by_contra hopen
  cases (hnotEnding (Bool.eq_true_of_not_eq_false hopen)).symm.trans hending

theorem engineSessionEnd (h : s.Coupled) (p : Port) : ∃ t, exec (.engineSessionEnd p) s = .next t ∧ t.Coupled := by
  cases howed : (s.session p).atEngine with
  | false => exact ⟨_, exec_engineSessionEnd_of_not_owed howed, h⟩
  | true =>
    have hclosed := h.isOpen_of_ending (p := p) (by simp [Session.ending, howed])
    obtain ⟨hlease, -, htick, hresponse⟩ := (h.sessions p).1
    obtain ⟨-, hevents⟩ := h.queues p hclosed
    refine ⟨_, exec_engineSessionEnd_of_owed howed, ?_⟩
    have hemptied : (s.setJobs p []).Coupled := h.setJobs_sublist (List.nil_sublist _)
    have htaken := hemptied.setSession (p := p) (r := { s.session p with atEngine := false })
      ⟨hlease, fun hopen => (by cases hclosed.symm.trans hopen), htick, hresponse⟩ (fun hopen => hopen)
      (fun hopen => by cases hclosed.symm.trans hopen) fun _ => ⟨fun _ => s.setJobs_jobs_self p [], hevents⟩
    exact htaken.setRunning _

theorem eventQueueSessionEnd (h : s.Coupled) (p : Port) :
    ∃ t, exec (.eventQueueSessionEnd p) s = .next t ∧ t.Coupled := by
  cases howed : (s.session p).atEvents with
  | false => exact ⟨_, exec_eventQueueSessionEnd_of_not_owed howed, h⟩
  | true =>
    have hclosed := h.isOpen_of_ending (p := p) (by simp [Session.ending, howed])
    obtain ⟨hlease, -, htick, hresponse⟩ := (h.sessions p).1
    obtain ⟨hjobs, -⟩ := h.queues p hclosed
    refine ⟨_, exec_eventQueueSessionEnd_of_owed howed, ?_⟩
    have hemptied : (s.setEvents p []).Coupled := h.setEvents_sublist (List.nil_sublist _)
    exact hemptied.setSession (p := p) (r := { s.session p with atEvents := false })
      ⟨hlease, fun hopen => (by cases hclosed.symm.trans hopen), htick, hresponse⟩ (fun hopen => hopen)
      (fun hopen => by cases hclosed.symm.trans hopen) fun _ => ⟨hjobs, fun _ => s.setEvents_events_self p []⟩

theorem portSessionEnd (h : s.Coupled) (p : Port) : ∃ t, exec (.portSessionEnd p) s = .next t ∧ t.Coupled := by
  cases howed : (s.session p).atPort with
  | false => exact ⟨_, exec_portSessionEnd_of_not_owed howed, h⟩
  | true =>
    have hclosed := h.isOpen_of_ending (p := p) (by simp [Session.ending, howed])
    obtain ⟨hlease, -, htick, -⟩ := (h.sessions p).1
    refine ⟨_, exec_portSessionEnd_of_owed howed, ?_⟩
    have htaken := h.setSession_same (p := p) (r := { s.session p with atPort := false, closeResponse := none })
      ⟨hlease, fun hopen => (by cases hclosed.symm.trans hopen), htick, fun hr => (nomatch hr)⟩ rfl rfl rfl
    refine htaken.setPort (fun hopen => ?_) fun hheld => (nomatch hheld)
    rw [State.setSession_session_self] at hopen
    cases hclosed.symm.trans hopen

theorem jobCompletion (h : s.Coupled) : ∃ t, exec .jobCompletion s = .next t ∧ t.Coupled := by
  cases hrun : s.running with
  | none => exact ⟨_, exec_jobCompletion_of_none hrun, h⟩
  | some j =>
    refine ⟨_, exec_jobCompletion_of_some hrun, ?_⟩
    obtain heq | ⟨hopen, heffect⟩ := (s.setRunning none).complete_effect j
    · rw [heq]
      exact h.setRunning none
    · exact (h.setRunning none).of_effect hopen heffect

theorem tick (h : s.Coupled) : ∃ t, exec .tick s = .next t ∧ t.Coupled := by
  refine ⟨_, exec_tick s, ?_⟩
  split
  · next hready => exact h.ticked hready
  · exact h

end State.Coupled

/-- Every command but the two of RESETn keeps the coupled properties. -/
theorem exec_coupled {s : State} (h : s.Coupled) :
    ∀ c : Instr, c ≠ .deviceReset → c ≠ .resetnReturnsHigh → ∃ t, exec c s = .next t ∧ t.Coupled :=
  Instr.forall_of_requests
    (fun k p _ _ => have ⟨t, ht, _⟩ := State.Keeps.request k p s; ⟨t, ht, h.request k p ht⟩)
    (fun hne => absurd rfl hne) (fun _ hne => absurd rfl hne) (fun _ _ => h.tick) (fun p _ _ => h.leaseExpiry p)
    (fun g _ _ => h.boundary g) (fun g _ _ => h.boundaryNotice g) (fun a _ _ => h.closeClaim a)
    (fun p _ _ => h.transactionStart p) (fun p _ _ => h.transactionEnd p) (fun p _ _ => h.null p)
    (fun p _ _ => h.resync p) (fun p _ _ => h.badKind p) (fun p _ _ => h.engineSessionEnd p)
    (fun p _ _ => h.eventQueueSessionEnd p) (fun p _ _ => h.portSessionEnd p) (fun _ _ => ⟨_, exec_grant s, h.makeGrant⟩)
    (fun _ _ => h.jobCompletion) (fun p b _ _ => h.byteShifted p b)

/-! ### RESETn (R188) -/

/-- A state at its reset values is the one that a device reset leaves, with its own RESETn. -/
theorem State.HasResetValues.heldInReset {s : State} (h : s.HasResetValues) : s.HeldInReset := fun hlow => by
  have hreset := s.atReset_hasResetValues true
  have hvalues := h
  obtain ⟨htick, hrefclk, -, -, hpointer, -⟩ := hvalues
  refine State.ext_readers rfl hlow hrefclk htick h.pool h.running hpointer (fun a => ?_) (fun a => ?_) (fun g => ?_)
    (fun g => ?_) (fun i => ?_) (fun p => ?_) (fun p => ?_) (fun p => ?_) fun p => ?_
  · rw [h.acc, hreset.acc]
  · rw [h.claims, hreset.claims]
  · rw [h.group, hreset.group]
  · rw [h.notice, hreset.notice]
  · rw [h.monitor, hreset.monitor]
  · rw [h.jobs, hreset.jobs]
  · rw [h.session, hreset.session]
  · rw [State.atReset_port]
    exact h.port p
  · rw [h.events, hreset.events]

/-- The level of a SELn pin is no reset value. -/
theorem State.HasResetValues.setPort_selLow {s : State} (h : s.HasResetValues) (p : Port) (b : Bool) :
    (s.setPort p { s.port p with selLow := b }).HasResetValues := by
  obtain ⟨htick, hrefclk, hpool, hrunning, hpointer, haccs, hmonitors, hgroups, hports⟩ := h
  refine ⟨htick, hrefclk, hpool, hrunning, hpointer, haccs, hmonitors, hgroups, fun q => ?_⟩
  obtain ⟨hjobs, hevents, hsession, hport⟩ := hports q
  refine ⟨hjobs, hevents, hsession, ?_⟩
  by_cases hqp : q = p
  · subst hqp
    rw [State.setPort_port_self, hport]
  · rw [State.setPort_port_ne _ _ hqp]
    exact hport

/-- While RESETn is low every command leaves every block at its reset values. -/
theorem State.HasResetValues.exec_of_low {s : State} (h : s.HasResetValues) (hlow : s.resetLow = true) (c : Instr) :
    ∃ t, exec c s = .next t ∧ t.HasResetValues := by
  obtain ⟨hstart, hend, hother⟩ := nothingMovesWhileResetnLow s h.heldInReset hlow
  by_cases hsel : ∃ p, c = .transactionStart p ∨ c = .transactionEnd p
  · obtain ⟨p, rfl | rfl⟩ := hsel
    · exact ⟨_, hstart p, h.setPort_selLow p true⟩
    · exact ⟨_, hend p, h.setPort_selLow p false⟩
  · by_cases hhigh : c = .resetnReturnsHigh
    · subst hhigh
      obtain ⟨htick, -, hrest⟩ := h
      exact ⟨_, exec_resetnReturnsHigh_of_low hlow, htick, rfl, hrest⟩
    · refine ⟨s, hother c (fun p => not_or.mp fun e => hsel ⟨p, e⟩) hhigh, h⟩

theorem State.Sound.coupled {s : State} (h : s.Sound) : s.Coupled :=
  ⟨h.sessionsFit, h.closedQueuesEmpty, h.standingSound, h.monitorsSound, h.groupsSound, h.boundariesOnce, h.jobsFit⟩

/-- With RESETn high a command leaves a sound state. -/
theorem exec_sound_of_high {s : State} (h : s.Sound) (hhigh : s.resetLow = false) (c : Instr) :
    ∃ t, exec c s = .next t ∧ t.Sound := by
  by_cases hreset : c = .deviceReset
  · subst hreset
    have hvalues := s.atReset_hasResetValues true
    exact ⟨_, exec_deviceReset s, hvalues.sound hvalues.heldInReset⟩
  · by_cases hreturns : c = .resetnReturnsHigh
    · subst hreturns
      exact ⟨_, exec_resetnReturnsHigh_of_high hhigh, h⟩
    · obtain ⟨t, ht, hkeeps⟩ := exec_keeps s c hreset hreturns
      obtain ⟨t', ht', hcoupled⟩ := exec_coupled h.coupled c hreset hreturns
      obtain rfl : t' = t := Host.Outcome.next.inj (ht'.symm.trans ht)
      refine ⟨_, ht, hkeeps.ports h.portsFit, hkeeps.events h.eventsFit, hkeeps.pool h.poolBalanced,
        hkeeps.histories h.historiesFit, hcoupled.sessions, hcoupled.queues, hcoupled.standing, hcoupled.monitors,
        hcoupled.groups, hcoupled.boundaries, hcoupled.jobs, fun hlow => ?_⟩
      cases (hkeeps.resetLow.trans hhigh).symm.trans hlow

/-- The waiting commands are no part of soundness. -/
theorem State.Sound.setPending {s : State} (h : s.Sound) (hhigh : s.resetLow = false) (l : List Instr) :
    (s.setPending l).Sound :=
  ⟨h.portsFit, h.eventsFit, h.poolBalanced, h.historiesFit, h.sessionsFit, h.closedQueuesEmpty, h.standingSound,
    h.monitorsSound, h.groupsSound, h.boundariesOnce, h.jobsFit, fun hlow => by cases hhigh.symm.trans hlow⟩

/-- Settles O5: a step idles, or is a command with RESETn low or high. -/
theorem stepKeepsSound : Obligations.StepKeepsSound := by
  intro s t hs hstep
  obtain rfl | ⟨c, rest, -, hexec⟩ := step_cases hstep
  · exact hs
  · cases hlow : s.resetLow with
    | true =>
      have hvalues : (s.setPending rest).HasResetValues := hs.heldInReset.hasResetValues hlow
      obtain ⟨t', ht', hleft⟩ := hvalues.exec_of_low hlow c
      obtain rfl : t' = t := Host.Outcome.next.inj (ht'.symm.trans hexec)
      exact hleft.sound hleft.heldInReset
    | false =>
      obtain ⟨t', ht', hsound⟩ := exec_sound_of_high (hs.setPending hlow rest) hlow c
      obtain rfl : t' = t := Host.Outcome.next.inj (ht'.symm.trans hexec)
      exact hsound

end Sys2Proof.Machine
end
